-- ==== Sys2Proof/Word.lean ====
section
/-! DEFINITION. The word types of the part and the plainest arithmetic on them. -/

namespace Sys2Proof

/-- One byte of a frame. -/
abbrev Byte := BitVec 8

/-- A text, seal number, plate or card number: its characters by their codes (R182). -/
abbrev Text := List Byte

/-- A lane, and the lane port that serves it: lanes are numbered 0 to 15. -/
abbrev LaneId := Fin 16

/-- An index of the Visit Table, 0 to 23. -/
abbrev VisitIx := Fin 24

/-- A port with a fault record: 0 to 15 the lane ports, 16 the terminal link, 17 the authority link. -/
abbrev PortId := Fin 18

/-- A set held as a mask: bit `n` stands for the member coded `n` (R182). -/
def hasBit {n : Nat} (m : BitVec n) (i : Nat) : Bool := m.getLsbD i

/-- The set `m` with the member coded `i` added. -/
def addBit {n : Nat} (m : BitVec n) (i : Nat) : BitVec n := m ||| (1#n <<< i)

/-- The set `m` without the member coded `i`. -/
def delBit {n : Nat} (m : BitVec n) (i : Nat) : BitVec n := m &&& ~~~(1#n <<< i)

/-- Every member of `a` is a member of `b`. -/
def subMask {n : Nat} (a b : BitVec n) : Bool := a &&& ~~~b == 0#n

end Sys2Proof
end

