-- ==== Sys2Proof/Config.lean ====
section
/-! DEFINITION. The sizes and fixed numbers the manual gives the part. No rule leaves a value open, so there is no free value. -/

namespace Sys2Proof.Config

/-- A lane's receive queue holds up to 16 frames (R11). -/
def receiveQueueSize : Nat := 16
/-- The terminal request queue holds up to 8 requests (R164). -/
def terminalQueueSize : Nat := 8
/-- The authority request queue holds up to 4 requests (R147). -/
def authorityQueueSize : Nat := 4
/-- The Record Queue holds up to 32 records (R167). -/
def recordQueueSize : Nat := 32
/-- The Decision Trail holds up to 32 entries (R141). -/
def trailSize : Nat := 32
/-- The Booking Table has 4096 places (R70). -/
def bookingPlaces : Nat := 4096
/-- The Closure Table has 1024 places (R94). -/
def closurePlaces : Nat := 1024
/-- The Hold List has 512 places (R148). -/
def holdPlaces : Nat := 512
/-- The last minute of the Gate Clock (R80). -/
def lastMinute : Nat := 1048575
/-- The longest payload of a lane frame (R5). -/
def lanePayloadMax : Nat := 120
/-- The longest body of a management frame (R162). -/
def bodyMax : Nat := 1024
/-- The start byte of a lane frame (01, section 1.2). -/
def laneStart : Byte := 0xA5#8
/-- The start byte of a management frame (09, section 9.1). -/
def mgmtStart : Byte := 0xC3#8
/-- Where the count of T2 stops (R36). -/
def t2Max : Nat := 65535
/-- Where the finding counts and the applied count stop (03 section 3.1, R115). -/
def findingMax : Nat := 1023
/-- A carried entry keeps up to 3 closure reads (R52). -/
def readsMax : Nat := 3
/-- The header log holds the first 16 bytes of a frame (R177). -/
def headerBytes : Nat := 16
/-- A sign text has at most 40 characters (R135). -/
def textMax : Nat := 40
/-- The ticks that make one second of the Gate Clock (R80). -/
def ticksPerSecond : Nat := 10

end Sys2Proof.Config
end

