-- ==== Sys2Proof/Syntax.lean ====
section
/-! DEFINITION. The commands of the part, one constructor per row of spec/opcode_table.json, and the names their operands use. -/

namespace Sys2Proof

/-- The management link a request arrives on. -/
inductive Link where
  | terminal | authority
  deriving DecidableEq, Repr

/-- Work direction: IN or OUT. -/
inductive Dir where
  | inGate | outGate
  deriving DecidableEq, Repr

/-- Load class of an ARRIVE: BARE, ONE or TWO. -/
inductive LoadClass where
  | bare | one | two
  deriving DecidableEq, Repr

/-- Position of a container on its chassis: SINGLE, FRONT or REAR. -/
inductive Position where
  | single | front | rear
  deriving DecidableEq, Repr

/-- Source of a closure read: TAG or CAMERA. -/
inductive Source where
  | tag | camera
  deriving DecidableEq, Repr

/-- Tag state of a TAG read: INTACT or BROKEN. -/
inductive TagState where
  | intact | broken
  deriving DecidableEq, Repr

/-- Panel of a finding: LEFT, RIGHT, FRONT, END, ROOF or FLOOR. -/
inductive Panel where
  | left | right | front | endPanel | roof | floor
  deriving DecidableEq, Repr

/-- Defect class of a finding: DENT, HOLE, CRACK, BULGE, CORROSION or DEFORM. -/
inductive Defect where
  | dent | hole | crack | bulge | corrosion | deform
  deriving DecidableEq, Repr

/-- Status of a SWEEP_END: COMPLETE, PARTIAL or FAILED. -/
inductive SweepStatus where
  | complete | partly | failed
  deriving DecidableEq, Repr

/-- Unit kind: LOOP, PLATE, CARD, CODE, CLOSURE, SCAN, SIGN or BARRIER. -/
inductive UnitKind where
  | loop | plate | card | code | closure | scan | sign | barrier
  deriving DecidableEq, Repr

/-- Barrier command: RAISE or LOWER. -/
inductive BarrierCmd where
  | raise | lower
  deriving DecidableEq, Repr

/-- Barrier position: UP or DOWN. -/
inductive BarrierPos where
  | up | down
  deriving DecidableEq, Repr

/-- Arrow of a SHOW: STRAIGHT, LEFT, RIGHT, TURN or NONE. -/
inductive Arrow where
  | straight | left | right | turn | noArrow
  deriving DecidableEq, Repr

/-- Lane mode: CLOSED, WARMING, OPEN_IN, OPEN_OUT or DRAINING. -/
inductive LaneMode where
  | closed | warming | openIn | openOut | draining
  deriving DecidableEq, Repr

/-- Hold cause of a lane: OPERATOR, RULE, AUDIT, STALL or FAULT. -/
inductive HoldCause where
  | operator | rule | audit | stall | fault
  deriving DecidableEq, Repr

/-- Window kind of T0: READ or CHECK. -/
inductive WindowKind where
  | read | check
  deriving DecidableEq, Repr

/-- Result of STEP_LANE: DIRECTION, BARRIER, FRAME or NOTHING. -/
inductive StepResult where
  | direction | barrier | frame | nothing
  deriving DecidableEq, Repr

/-- State of a timer as a reply gives it: STOPPED, RUNNING or PAUSED. -/
inductive TimerState where
  | stopped | running | paused
  deriving DecidableEq, Repr

/-- State of a visit record: FREE, IDENTIFYING, CHECKING, WAITING_BAY, DIRECTED, REFERRED or CLOSING. -/
inductive VisitState where
  | free | identifying | checking | waitingBay | directed | referred | closing
  deriving DecidableEq, Repr

/-- Verdict: ADMIT, REFER or REJECT. -/
inductive Verdict where
  | admitted | refer | reject
  deriving DecidableEq, Repr

/-- Policy class of a reason: NOTE, REFER or REJECT. -/
inductive PolicyClass where
  | note | refer | reject
  deriving DecidableEq, Repr

/-- Outcome of a record: ADMITTED, REJECTED, REFERRED_ADMITTED, REFERRED_REJECTED or CANCELLED. -/
inductive CloseOutcome where
  | admitted | rejected | referredAdmitted | referredRejected | cancelled
  deriving DecidableEq, Repr

/-- Closure outcome of a carried entry. -/
inductive ClosureOutcome where
  | pending | awaitingRecord | matched | mismatch | broken | missing | unverified | notRequired | notChecked
  deriving DecidableEq, Repr

/-- Damage outcome of a carried entry. -/
inductive DamageOutcome where
  | pending | clean | minor | survey | incomplete | notSwept
  deriving DecidableEq, Repr

/-- Booking kind: DROP or PICK. -/
inductive BookingKind where
  | drop | pick
  deriving DecidableEq, Repr

/-- Booking state: OPEN, HELD, ENTERED, CLOSED or CANCELLED. -/
inductive BookingState where
  | opened | held | entered | closed | cancelled
  deriving DecidableEq, Repr

/-- Closure requirement: NONE, LISTED or INTACT_ONLY. -/
inductive ClosureReq where
  | noCheck | listed | intactOnly
  deriving DecidableEq, Repr

/-- Result of a load: ADDED or REPLACED. -/
inductive LoadResult where
  | added | replaced
  deriving DecidableEq, Repr

/-- Phase of a lane's sweep: IDLE or RUNNING. -/
inductive SweepPhase where
  | idle | running
  deriving DecidableEq, Repr

/-- Last sweep end: ENDED or STOPPED. -/
inductive SweepEnd where
  | ended | stopped
  deriving DecidableEq, Repr

/-- Measure of a matcher: SEVERITY or EXTENT. -/
inductive Measure where
  | severity | extent
  deriving DecidableEq, Repr

/-- Condition of a matcher: NE, EQ, LT or GT. -/
inductive Condition where
  | ne | eq | lt | gt
  deriving DecidableEq, Repr

/-- Combine mode of a rule: EITHER, BOTH, B_AFTER_A or A_AFTER_B. -/
inductive Combine where
  | either | both | bAfterA | aAfterB
  deriving DecidableEq, Repr

/-- Action of a rule: MINOR, SURVEY or HOLD. -/
inductive RuleAction where
  | minor | survey | hold
  deriving DecidableEq, Repr

/-- Direction class: ADMIT_IN, ADMIT_OUT, REFER or REJECT. -/
inductive DirClass where
  | admitIn | admitOut | refer | reject
  deriving DecidableEq, Repr

/-- Cause of a trail entry: VERDICT, OVERRIDE, REDIRECT or RESOLVE. -/
inductive TrailCause where
  | verdict | override | redirect | resolve
  deriving DecidableEq, Repr

/-- Kind of an authority hold: CUSTOMS, SECURITY or INSPECTION. -/
inductive HoldKind where
  | customs | security | inspection
  deriving DecidableEq, Repr

/-- Event kind. -/
inductive EventKind where
  | laneMode | laneHeld | parked | closureMiss | bayWait | fault | authLink | notice | holdChange
  deriving DecidableEq, Repr

/-- Fault kind; a link port has the first four. -/
inductive FaultKind where
  | badCheck | malformed | unknownClass | rxOverflow | seqGap | unexpected | stale | signTimeout | warmupFail
  deriving DecidableEq, Repr

/-- Reset cause: POWER_ON, RESET_LINE or RESTART. -/
inductive ResetCause where
  | powerOn | resetLine | restart
  deriving DecidableEq, Repr

/-- State of a line or link: DOWN or UP. -/
inductive LinkState where
  | down | up
  deriving DecidableEq, Repr

/-- Status of a reply. -/
inductive Status where
  | ok | busy | full | duplicate | notFound | badValue | state | inUse | denied | unknown
  deriving DecidableEq, Repr

/-- Reason of a visit. -/
inductive Reason where
  | noBooking | bookingState | plateMismatch | cardMismatch | codeInvalid | lowConfidence | readMissing | readConflict | early | lateReslotted | lateNoSpace | clockUnset | closureMismatch | closureBroken | closureMissing | closureUnverified | damageMinor | damageSurvey | sweepIncomplete | authHold | operator
  deriving DecidableEq, Repr

/-- The twelve fields of a lane profile (02, section 2.3). -/
structure Profile where
  /-- required unit set -/
  required : BitVec 8
  warmup : Nat
  readWindow : Nat
  checkWindow : Nat
  barrierWindow : Nat
  /-- sign-ACK timeout -/
  signAck : Nat
  reread : Bool
  plateThreshold : Nat
  codeThreshold : Nat
  /-- audit interval -/
  audit : Nat
  /-- damage rule set -/
  rules : BitVec 16
  /-- sweep panel set -/
  panels : BitVec 8
  deriving DecidableEq, Repr

/-- A matcher of a damage rule (06, section 6.6). -/
structure Matcher where
  panels : BitVec 8
  defects : BitVec 8
  measure : Measure
  condition : Condition
  value : Nat
  deriving DecidableEq, Repr

/-- A damage rule (06, section 6.6). -/
structure Rule where
  enabled : Bool
  a : Matcher
  b : Option Matcher
  combine : Combine
  tolerance : Nat
  action : RuleAction
  deriving DecidableEq, Repr

/-- A Direction Table entry; the key is absent for ANY (R131). -/
structure Direction where
  cls : DirClass
  key : Option Nat
  message : Nat
  arrow : Arrow
  deriving DecidableEq, Repr

/-- The fields LOAD_BOOKING carries (R72). -/
structure BookingLoad where
  ref : Nat
  kind : BookingKind
  code : Text
  card : Option Text
  plate : Option Text
  window : Nat
  closure : ClosureReq
  yard : Nat
  deriving DecidableEq, Repr

/-- How READ_VISIT names a visit (R65, R160). -/
inductive VisitSel where
  | number (n : Nat) | index (i : Nat)
  deriving DecidableEq, Repr

/-- How READ_BOOKING names a booking (R75). -/
inductive BookingSel where
  | ref (r : Nat) | index (i : Nat)
  deriving DecidableEq, Repr

/-- How READ_CLOSURE names an entry (R102). -/
inductive ClosureSel where
  | code (c : Text) | index (i : Nat) | rank (r : Nat)
  deriving DecidableEq, Repr

/-- How READ_HOLD names an entry (R150). -/
inductive HoldSel where
  | code (c : Text) | index (i : Nat)
  deriving DecidableEq, Repr

/-- The requests of the two management links with the fields their rules give them (R164, R147).
HOLD_LANE has a meaning though the table of commands has no row for it (log 3). -/
inductive Request where
  | openLane (lane : Nat) (dir : Dir)
  | setDirection (lane : Nat) (dir : Dir)
  | closeLane (lane : Nat)
  | holdLane (lane : Nat)
  | stepLane (lane : Nat)
  | resumeLane (lane : Nat)
  | resetLane (lane : Nat)
  | readLane (lane : Nat)
  | writeProfile (index : Nat) (fields : Profile)
  | readProfile (index : Nat)
  | assignProfile (lane index : Nat)
  | setVerdict (lane : Nat) (verdict : Verdict)
  | resolve (visit : Nat) (outcome : Verdict)
  | cancelVisit (visit : Nat)
  | readVisit (sel : VisitSel)
  | setBays (count : Nat)
  | writePolicy (reason : Reason) (cls : PolicyClass)
  | readPolicy
  | loadBooking (fields : BookingLoad)
  | cancelBooking (ref : Nat)
  | purgeBooking (ref : Nat)
  | readBooking (sel : BookingSel)
  | findBooking (code : Text) (kind : BookingKind)
  | loadWindow (index start length capacity : Nat)
  | removeWindow (index : Nat)
  | readWindow (index : Nat)
  | setClock (minute second : Nat)
  | readClock
  | setSlack (early late : Nat)
  | loadClosure (code : Text) (seals : List Text)
  | removeClosure (code : Text)
  | setRetain (code : Text) (value : Bool)
  | readClosure (sel : ClosureSel)
  | writeRule (index : Nat) (rule : Rule)
  | readRule (index : Nat)
  | readSweep (lane : Nat)
  | writeDirection (index : Nat) (entry : Direction)
  | clearDirection (index : Nat)
  | readDirection (index : Nat)
  | writeMessage (index : Nat) (items : Text)
  | readMessage (index : Nat)
  | trailFreeze
  | trailRead
  | trailThaw
  | addHold (code : Text) (kind : HoldKind) (ref : Nat)
  | removeHold (code : Text)
  | readHold (sel : HoldSel)
  | raiseNotice (flags : BitVec 16)
  | clearNotice (flags : BitVec 16)
  | maskNotice (flags : BitVec 16)
  | unmaskNotice (flags : BitVec 16)
  | readNotice
  | writeSlot (slot : Nat) (bytes : List Byte)
  | readSlot (slot : Nat)
  | setEventEnable (kinds : BitVec 16)
  | readStatus
  | restart
  | clearFaults (port : Nat) (kinds : BitVec 16)
  | setFaultMask (port : Nat) (kinds : BitVec 16)
  | setFaultSeverity (port : Nat) (kinds : BitVec 16)
  | readFaults (port : Nat)
  deriving DecidableEq, Repr

/-- The commands: the rows of spec/opcode_table.json, in its order.
A request's row is the arrival of that request on its link, well framed, with its tag (log 3). -/
inductive Instr where
  /-- POWER_ON_RESET -/
  | powerOnReset
  /-- RESET_LINE -/
  | resetLine
  /-- TICK -/
  | tick
  /-- GATE_CLOCK_SECOND -/
  | gateClockSecond
  /-- LANE_LINE_DOWN -/
  | laneLineDown (lane : LaneId)
  /-- LANE_LINE_UP -/
  | laneLineUp (lane : LaneId)
  /-- LANE_IDLE_TIMEOUT -/
  | laneIdleTimeout (lane : LaneId)
  /-- LANE_LENGTH_OVERRUN -/
  | laneLengthOverrun (lane : LaneId) (cls seq len : Byte)
  /-- VISIT_FRAME_RECEIVED -/
  | visitFrameReceived (lane : LaneId) (bytes : List Byte)
  /-- READY -/
  | ready (lane : LaneId) (seq unit : Byte)
  /-- ACK_SIGN -/
  | ackSign (lane : LaneId) (seq echo : Byte)
  /-- ACK_BARRIER -/
  | ackBarrier (lane : LaneId) (seq echo position : Byte)
  /-- LANE_TX_COMPLETE -/
  | laneTxComplete (lane : LaneId)
  /-- SIGN_TIMEOUT -/
  | signTimeout (lane : LaneId)
  /-- APPLY_ARRIVE -/
  | applyArrive (lane : LaneId)
  /-- APPLY_PLATE -/
  | applyPlate (lane : LaneId)
  /-- APPLY_CARD -/
  | applyCard (lane : LaneId)
  /-- APPLY_CODE -/
  | applyCode (lane : LaneId)
  /-- APPLY_CLOSURE -/
  | applyClosure (lane : LaneId)
  /-- APPLY_FIND -/
  | applyFind (lane : LaneId)
  /-- APPLY_SWEEP_END -/
  | applySweepEnd (lane : LaneId)
  /-- APPLY_CLEAR -/
  | applyClear (lane : LaneId)
  /-- READ_WINDOW_EXPIRY -/
  | readWindowExpiry (lane : LaneId)
  /-- CHECK_WINDOW_EXPIRY -/
  | checkWindowExpiry (lane : LaneId)
  /-- BARRIER_STALL -/
  | barrierStall (lane : LaneId)
  /-- WARMUP_EXPIRY -/
  | warmupExpiry (lane : LaneId)
  /-- MGMT_LENGTH_OVERRUN -/
  | mgmtLengthOverrun (link : Link) (kind tag high low : Byte)
  /-- MGMT_IDLE_TIMEOUT -/
  | mgmtIdleTimeout (link : Link)
  /-- MGMT_FRAME_RECEIVED -/
  | mgmtFrameReceived (link : Link) (bytes : List Byte)
  /-- TERMINAL_LINK_DOWN -/
  | terminalLinkDown
  /-- TERMINAL_LINK_UP -/
  | terminalLinkUp
  /-- AUTH_LINK_DOWN -/
  | authLinkDown
  /-- AUTH_LINK_UP -/
  | authLinkUp
  /-- TERMINAL_TX_COMPLETE -/
  | terminalTxComplete
  /-- AUTH_TX_COMPLETE -/
  | authTxComplete
  /-- OPEN_LANE -/
  | openLane (tag : Byte) (lane : Nat) (dir : Dir)
  /-- SET_DIRECTION -/
  | setDirection (tag : Byte) (lane : Nat) (dir : Dir)
  /-- CLOSE_LANE -/
  | closeLane (tag : Byte) (lane : Nat)
  /-- STEP_LANE -/
  | stepLane (tag : Byte) (lane : Nat)
  /-- RESUME_LANE -/
  | resumeLane (tag : Byte) (lane : Nat)
  /-- RESET_LANE -/
  | resetLane (tag : Byte) (lane : Nat)
  /-- READ_LANE -/
  | readLane (tag : Byte) (lane : Nat)
  /-- WRITE_PROFILE -/
  | writeProfile (tag : Byte) (index : Nat) (fields : Profile)
  /-- READ_PROFILE -/
  | readProfile (tag : Byte) (index : Nat)
  /-- ASSIGN_PROFILE -/
  | assignProfile (tag : Byte) (lane index : Nat)
  /-- SET_VERDICT -/
  | setVerdict (tag : Byte) (lane : Nat) (verdict : Verdict)
  /-- RESOLVE -/
  | resolve (tag : Byte) (visit : Nat) (outcome : Verdict)
  /-- CANCEL_VISIT -/
  | cancelVisit (tag : Byte) (visit : Nat)
  /-- READ_VISIT -/
  | readVisit (tag : Byte) (sel : VisitSel)
  /-- SET_BAYS -/
  | setBays (tag : Byte) (count : Nat)
  /-- WRITE_POLICY -/
  | writePolicy (tag : Byte) (reason : Reason) (cls : PolicyClass)
  /-- READ_POLICY -/
  | readPolicy (tag : Byte)
  /-- LOAD_BOOKING -/
  | loadBooking (tag : Byte) (fields : BookingLoad)
  /-- CANCEL_BOOKING -/
  | cancelBooking (tag : Byte) (ref : Nat)
  /-- PURGE_BOOKING -/
  | purgeBooking (tag : Byte) (ref : Nat)
  /-- READ_BOOKING -/
  | readBooking (tag : Byte) (sel : BookingSel)
  /-- FIND_BOOKING -/
  | findBooking (tag : Byte) (code : Text) (kind : BookingKind)
  /-- LOAD_WINDOW -/
  | loadWindow (tag : Byte) (index start length capacity : Nat)
  /-- REMOVE_WINDOW -/
  | removeWindow (tag : Byte) (index : Nat)
  /-- READ_WINDOW -/
  | readWindow (tag : Byte) (index : Nat)
  /-- SET_CLOCK -/
  | setClock (tag : Byte) (minute second : Nat)
  /-- READ_CLOCK -/
  | readClock (tag : Byte)
  /-- SET_SLACK -/
  | setSlack (tag : Byte) (early late : Nat)
  /-- LOAD_CLOSURE -/
  | loadClosure (tag : Byte) (code : Text) (seals : List Text)
  /-- REMOVE_CLOSURE -/
  | removeClosure (tag : Byte) (code : Text)
  /-- SET_RETAIN -/
  | setRetain (tag : Byte) (code : Text) (value : Bool)
  /-- READ_CLOSURE -/
  | readClosure (tag : Byte) (sel : ClosureSel)
  /-- WRITE_RULE -/
  | writeRule (tag : Byte) (index : Nat) (rule : Rule)
  /-- READ_RULE -/
  | readRule (tag : Byte) (index : Nat)
  /-- READ_SWEEP -/
  | readSweep (tag : Byte) (lane : Nat)
  /-- WRITE_DIRECTION -/
  | writeDirection (tag : Byte) (index : Nat) (entry : Direction)
  /-- CLEAR_DIRECTION -/
  | clearDirection (tag : Byte) (index : Nat)
  /-- READ_DIRECTION -/
  | readDirection (tag : Byte) (index : Nat)
  /-- WRITE_MESSAGE -/
  | writeMessage (tag : Byte) (index : Nat) (items : Text)
  /-- READ_MESSAGE -/
  | readMessage (tag : Byte) (index : Nat)
  /-- TRAIL_FREEZE -/
  | trailFreeze (tag : Byte)
  /-- TRAIL_READ -/
  | trailRead (tag : Byte)
  /-- TRAIL_THAW -/
  | trailThaw (tag : Byte)
  /-- ADD_HOLD -/
  | addHold (link : Link) (tag : Byte) (code : Text) (kind : HoldKind) (ref : Nat)
  /-- REMOVE_HOLD -/
  | removeHold (link : Link) (tag : Byte) (code : Text)
  /-- READ_HOLD -/
  | readHold (link : Link) (tag : Byte) (sel : HoldSel)
  /-- AUTH_READ_VISIT -/
  | authReadVisit (tag : Byte) (sel : VisitSel)
  /-- RAISE_NOTICE -/
  | raiseNotice (link : Link) (tag : Byte) (flags : BitVec 16)
  /-- CLEAR_NOTICE -/
  | clearNotice (link : Link) (tag : Byte) (flags : BitVec 16)
  /-- MASK_NOTICE -/
  | maskNotice (link : Link) (tag : Byte) (flags : BitVec 16)
  /-- UNMASK_NOTICE -/
  | unmaskNotice (link : Link) (tag : Byte) (flags : BitVec 16)
  /-- READ_NOTICE -/
  | readNotice (link : Link) (tag : Byte)
  /-- WRITE_SLOT -/
  | writeSlot (link : Link) (tag : Byte) (slot : Nat) (bytes : List Byte)
  /-- READ_SLOT -/
  | readSlot (link : Link) (tag : Byte) (slot : Nat)
  /-- SET_EVENT_ENABLE -/
  | setEventEnable (tag : Byte) (kinds : BitVec 16)
  /-- READ_STATUS -/
  | readStatus (tag : Byte)
  /-- RESTART -/
  | restart (tag : Byte)
  /-- CLEAR_FAULTS -/
  | clearFaults (tag : Byte) (port : Nat) (kinds : BitVec 16)
  /-- SET_FAULT_MASK -/
  | setFaultMask (tag : Byte) (port : Nat) (kinds : BitVec 16)
  /-- SET_FAULT_SEVERITY -/
  | setFaultSeverity (tag : Byte) (port : Nat) (kinds : BitVec 16)
  /-- READ_FAULTS -/
  | readFaults (tag : Byte) (port : Nat)
  /-- UNKNOWN_REQUEST -/
  | unknownRequest (link : Link) (tag code : Byte) (body : List Byte)
  deriving DecidableEq, Repr

end Sys2Proof
end

