-- ==== Sys2Proof/WellFormed.lean ====
section
/-! DEFINITION. Well-formed commands: every operand has a value its field can carry on the link (R182). -/

namespace Sys2Proof

/-- A number that `w` bytes carry. -/
def fits (w n : Nat) : Bool := n < 256 ^ w

/-- A text whose length byte carries its length. -/
def Text.fits (t : Text) : Bool := t.length < 256

/-- A container code has eleven characters and no length byte. -/
def Text.isCode (t : Text) : Bool := t.length == 11

/-- An optional text that is absent or fits. -/
def optFits : Option Text → Bool
  | none => true
  | some t => Text.fits t

/-- Every field of the profile fits its width. -/
def Profile.fits (p : Profile) : Bool :=
  Sys2Proof.fits 2 p.warmup && Sys2Proof.fits 2 p.readWindow && Sys2Proof.fits 2 p.checkWindow
    && Sys2Proof.fits 2 p.barrierWindow && Sys2Proof.fits 1 p.signAck && Sys2Proof.fits 1 p.plateThreshold
    && Sys2Proof.fits 1 p.codeThreshold && Sys2Proof.fits 1 p.audit

/-- The value of the matcher fits its width. -/
def Matcher.fits (m : Matcher) : Bool := Sys2Proof.fits 2 m.value

/-- The fields of the rule fit their widths. -/
def Rule.fits (r : Rule) : Bool :=
  r.a.fits && (match r.b with | none => true | some m => m.fits) && Sys2Proof.fits 1 r.tolerance

/-- The fields of the direction fit their widths; 255 is ANY and so no key. -/
def Direction.fits (d : Direction) : Bool :=
  Sys2Proof.fits 1 d.message && (match d.key with | none => true | some k => k < 255)

/-- The fields of the booking fit their widths. -/
def BookingLoad.fits (f : BookingLoad) : Bool :=
  Sys2Proof.fits 4 f.ref && Text.isCode f.code && optFits f.card && optFits f.plate && Sys2Proof.fits 1 f.window
    && Sys2Proof.fits 1 f.yard

/-- The selector fits its width. -/
def VisitSel.fits : VisitSel → Bool
  | .number n => Sys2Proof.fits 2 n
  | .index i => Sys2Proof.fits 1 i

/-- The selector fits its width. -/
def BookingSel.fits : BookingSel → Bool
  | .ref r => Sys2Proof.fits 4 r
  | .index i => Sys2Proof.fits 2 i

/-- The selector fits its width. -/
def ClosureSel.fits : ClosureSel → Bool
  | .code c => Text.isCode c
  | .index i => Sys2Proof.fits 2 i
  | .rank r => Sys2Proof.fits 2 r

/-- The selector fits its width. -/
def HoldSel.fits : HoldSel → Bool
  | .code c => Text.isCode c
  | .index i => Sys2Proof.fits 2 i

/-- A port, and a set of fault kinds that the one byte of a link port's set carries (R175). -/
def kindsFit (port : Nat) (kinds : BitVec 16) : Bool :=
  Sys2Proof.fits 1 port && (Sys2Proof.fits 1 kinds.toNat || !(port == 16 || port == 17))

/-- Every field of the request fits its encoding (R182). -/
def Request.wf : Request → Bool
  | .openLane lane _ => fits 1 lane
  | .setDirection lane _ => fits 1 lane
  | .closeLane lane => fits 1 lane
  | .holdLane lane => fits 1 lane
  | .stepLane lane => fits 1 lane
  | .resumeLane lane => fits 1 lane
  | .resetLane lane => fits 1 lane
  | .readLane lane => fits 1 lane
  | .writeProfile index fields => fits 1 index && fields.fits
  | .readProfile index => fits 1 index
  | .assignProfile lane index => fits 1 lane && fits 1 index
  | .setVerdict lane _ => fits 1 lane
  | .resolve visit _ => fits 2 visit
  | .cancelVisit visit => fits 2 visit
  | .readVisit sel => sel.fits
  | .setBays count => fits 1 count
  | .writePolicy _ _ => true
  | .readPolicy => true
  | .loadBooking fields => fields.fits
  | .cancelBooking ref => fits 4 ref
  | .purgeBooking ref => fits 4 ref
  | .readBooking sel => sel.fits
  | .findBooking code _ => Text.isCode code
  | .loadWindow index start length capacity => fits 1 index && fits 3 start && fits 1 length && fits 1 capacity
  | .removeWindow index => fits 1 index
  | .readWindow index => fits 1 index
  | .setClock minute second => fits 3 minute && fits 1 second
  | .readClock => true
  | .setSlack early late => fits 1 early && fits 1 late
  | .loadClosure code seals => Text.isCode code && seals.length < 256 && seals.all Text.fits
  | .removeClosure code => Text.isCode code
  | .setRetain code _ => Text.isCode code
  | .readClosure sel => sel.fits
  | .writeRule index rule => fits 1 index && rule.fits
  | .readRule index => fits 1 index
  | .readSweep lane => fits 1 lane
  | .writeDirection index entry => fits 1 index && entry.fits
  | .clearDirection index => fits 1 index
  | .readDirection index => fits 1 index
  | .writeMessage index items => fits 1 index && Text.fits items
  | .readMessage index => fits 1 index
  | .trailFreeze => true
  | .trailRead => true
  | .trailThaw => true
  | .addHold code _ ref => Text.isCode code && fits 4 ref
  | .removeHold code => Text.isCode code
  | .readHold sel => sel.fits
  | .raiseNotice _ => true
  | .clearNotice _ => true
  | .maskNotice _ => true
  | .unmaskNotice _ => true
  | .readNotice => true
  | .writeSlot slot bytes => fits 1 slot && bytes.length < 1023
  | .readSlot slot => fits 1 slot
  | .setEventEnable _ => true
  | .readStatus => true
  | .restart => true
  | .clearFaults port kinds => kindsFit port kinds
  | .setFaultMask port kinds => kindsFit port kinds
  | .setFaultSeverity port kinds => kindsFit port kinds
  | .readFaults port => fits 1 port

/-- A command whose operands a frame can carry. -/
def Instr.wf : Instr → Bool
  | .powerOnReset => true
  | .resetLine => true
  | .tick => true
  | .gateClockSecond => true
  | .laneLineDown .. => true
  | .laneLineUp .. => true
  | .laneIdleTimeout .. => true
  | .laneLengthOverrun .. => true
  | .visitFrameReceived .. => true
  | .ready .. => true
  | .ackSign .. => true
  | .ackBarrier .. => true
  | .laneTxComplete .. => true
  | .signTimeout .. => true
  | .applyArrive .. => true
  | .applyPlate .. => true
  | .applyCard .. => true
  | .applyCode .. => true
  | .applyClosure .. => true
  | .applyFind .. => true
  | .applySweepEnd .. => true
  | .applyClear .. => true
  | .readWindowExpiry .. => true
  | .checkWindowExpiry .. => true
  | .barrierStall .. => true
  | .warmupExpiry .. => true
  | .mgmtLengthOverrun .. => true
  | .mgmtIdleTimeout .. => true
  | .mgmtFrameReceived .. => true
  | .terminalLinkDown => true
  | .terminalLinkUp => true
  | .authLinkDown => true
  | .authLinkUp => true
  | .terminalTxComplete => true
  | .authTxComplete => true
  | .openLane _ lane dir => (Request.openLane lane dir).wf
  | .setDirection _ lane dir => (Request.setDirection lane dir).wf
  | .closeLane _ lane => (Request.closeLane lane).wf
  | .stepLane _ lane => (Request.stepLane lane).wf
  | .resumeLane _ lane => (Request.resumeLane lane).wf
  | .resetLane _ lane => (Request.resetLane lane).wf
  | .readLane _ lane => (Request.readLane lane).wf
  | .writeProfile _ index fields => (Request.writeProfile index fields).wf
  | .readProfile _ index => (Request.readProfile index).wf
  | .assignProfile _ lane index => (Request.assignProfile lane index).wf
  | .setVerdict _ lane verdict => (Request.setVerdict lane verdict).wf
  | .resolve _ visit outcome => (Request.resolve visit outcome).wf
  | .cancelVisit _ visit => (Request.cancelVisit visit).wf
  | .readVisit _ sel => (Request.readVisit sel).wf
  | .setBays _ count => (Request.setBays count).wf
  | .writePolicy _ reason cls => (Request.writePolicy reason cls).wf
  | .readPolicy _ => (Request.readPolicy).wf
  | .loadBooking _ fields => (Request.loadBooking fields).wf
  | .cancelBooking _ ref => (Request.cancelBooking ref).wf
  | .purgeBooking _ ref => (Request.purgeBooking ref).wf
  | .readBooking _ sel => (Request.readBooking sel).wf
  | .findBooking _ code kind => (Request.findBooking code kind).wf
  | .loadWindow _ index start length capacity => (Request.loadWindow index start length capacity).wf
  | .removeWindow _ index => (Request.removeWindow index).wf
  | .readWindow _ index => (Request.readWindow index).wf
  | .setClock _ minute second => (Request.setClock minute second).wf
  | .readClock _ => (Request.readClock).wf
  | .setSlack _ early late => (Request.setSlack early late).wf
  | .loadClosure _ code seals => (Request.loadClosure code seals).wf
  | .removeClosure _ code => (Request.removeClosure code).wf
  | .setRetain _ code value => (Request.setRetain code value).wf
  | .readClosure _ sel => (Request.readClosure sel).wf
  | .writeRule _ index rule => (Request.writeRule index rule).wf
  | .readRule _ index => (Request.readRule index).wf
  | .readSweep _ lane => (Request.readSweep lane).wf
  | .writeDirection _ index entry => (Request.writeDirection index entry).wf
  | .clearDirection _ index => (Request.clearDirection index).wf
  | .readDirection _ index => (Request.readDirection index).wf
  | .writeMessage _ index items => (Request.writeMessage index items).wf
  | .readMessage _ index => (Request.readMessage index).wf
  | .trailFreeze _ => (Request.trailFreeze).wf
  | .trailRead _ => (Request.trailRead).wf
  | .trailThaw _ => (Request.trailThaw).wf
  | .addHold _ _ code kind ref => (Request.addHold code kind ref).wf
  | .removeHold _ _ code => (Request.removeHold code).wf
  | .readHold _ _ sel => (Request.readHold sel).wf
  | .authReadVisit _ sel => (Request.readVisit sel).wf
  | .raiseNotice _ _ flags => (Request.raiseNotice flags).wf
  | .clearNotice _ _ flags => (Request.clearNotice flags).wf
  | .maskNotice _ _ flags => (Request.maskNotice flags).wf
  | .unmaskNotice _ _ flags => (Request.unmaskNotice flags).wf
  | .readNotice _ _ => (Request.readNotice).wf
  | .writeSlot _ _ slot bytes => (Request.writeSlot slot bytes).wf
  | .readSlot _ _ slot => (Request.readSlot slot).wf
  | .setEventEnable _ kinds => (Request.setEventEnable kinds).wf
  | .readStatus _ => (Request.readStatus).wf
  | .restart _ => (Request.restart).wf
  | .clearFaults _ port kinds => (Request.clearFaults port kinds).wf
  | .setFaultMask _ port kinds => (Request.setFaultMask port kinds).wf
  | .setFaultSeverity _ port kinds => (Request.setFaultSeverity port kinds).wf
  | .readFaults _ port => (Request.readFaults port).wf
  | .unknownRequest _ _ _ body => body.length < 1024

end Sys2Proof
end

