-- ==== Sys2Proof/Decode.lean ====
section
/-! DEFINITION. The encodings of chapter 11: codes, numbers, CRCs, lane frames, request bodies; and the table's words.
The table of commands gives bits to no row, so decodeTableWord answers none for every word. -/

namespace Sys2Proof

/-- The command a word spells by the table's bits: no row gives bits. -/
def decodeTableWord (_nbits _w : Nat) : Option Instr := none

/-! ### Codes (11.4) -/

/-- Code of a Dir (11.4). -/
def Dir.toCode : Dir → Nat
  | .inGate => 0
  | .outGate => 1

/-- The Dir a code names, or none (11.4). -/
def Dir.ofCode : Nat → Option Dir
  | 0 => some .inGate
  | 1 => some .outGate
  | _ => none

/-- Code of a LoadClass (11.4). -/
def LoadClass.toCode : LoadClass → Nat
  | .bare => 0
  | .one => 1
  | .two => 2

/-- The LoadClass a code names, or none (11.4). -/
def LoadClass.ofCode : Nat → Option LoadClass
  | 0 => some .bare
  | 1 => some .one
  | 2 => some .two
  | _ => none

/-- Code of a Position (11.4). -/
def Position.toCode : Position → Nat
  | .single => 0
  | .front => 1
  | .rear => 2

/-- The Position a code names, or none (11.4). -/
def Position.ofCode : Nat → Option Position
  | 0 => some .single
  | 1 => some .front
  | 2 => some .rear
  | _ => none

/-- Code of a Source (11.4). -/
def Source.toCode : Source → Nat
  | .tag => 0
  | .camera => 1

/-- The Source a code names, or none (11.4). -/
def Source.ofCode : Nat → Option Source
  | 0 => some .tag
  | 1 => some .camera
  | _ => none

/-- Code of a TagState (11.4). -/
def TagState.toCode : TagState → Nat
  | .intact => 0
  | .broken => 1

/-- The TagState a code names, or none (11.4). -/
def TagState.ofCode : Nat → Option TagState
  | 0 => some .intact
  | 1 => some .broken
  | _ => none

/-- Code of a Panel (11.4). -/
def Panel.toCode : Panel → Nat
  | .left => 0
  | .right => 1
  | .front => 2
  | .endPanel => 3
  | .roof => 4
  | .floor => 5

/-- The Panel a code names, or none (11.4). -/
def Panel.ofCode : Nat → Option Panel
  | 0 => some .left
  | 1 => some .right
  | 2 => some .front
  | 3 => some .endPanel
  | 4 => some .roof
  | 5 => some .floor
  | _ => none

/-- Code of a Defect (11.4). -/
def Defect.toCode : Defect → Nat
  | .dent => 0
  | .hole => 1
  | .crack => 2
  | .bulge => 3
  | .corrosion => 4
  | .deform => 5

/-- The Defect a code names, or none (11.4). -/
def Defect.ofCode : Nat → Option Defect
  | 0 => some .dent
  | 1 => some .hole
  | 2 => some .crack
  | 3 => some .bulge
  | 4 => some .corrosion
  | 5 => some .deform
  | _ => none

/-- Code of a SweepStatus (11.4). -/
def SweepStatus.toCode : SweepStatus → Nat
  | .complete => 0
  | .partly => 1
  | .failed => 2

/-- The SweepStatus a code names, or none (11.4). -/
def SweepStatus.ofCode : Nat → Option SweepStatus
  | 0 => some .complete
  | 1 => some .partly
  | 2 => some .failed
  | _ => none

/-- Code of a UnitKind (11.4). -/
def UnitKind.toCode : UnitKind → Nat
  | .loop => 0
  | .plate => 1
  | .card => 2
  | .code => 3
  | .closure => 4
  | .scan => 5
  | .sign => 6
  | .barrier => 7

/-- The UnitKind a code names, or none (11.4). -/
def UnitKind.ofCode : Nat → Option UnitKind
  | 0 => some .loop
  | 1 => some .plate
  | 2 => some .card
  | 3 => some .code
  | 4 => some .closure
  | 5 => some .scan
  | 6 => some .sign
  | 7 => some .barrier
  | _ => none

/-- Code of a BarrierCmd (11.4). -/
def BarrierCmd.toCode : BarrierCmd → Nat
  | .raise => 0
  | .lower => 1

/-- Code of a BarrierPos (11.4). -/
def BarrierPos.toCode : BarrierPos → Nat
  | .up => 0
  | .down => 1

/-- The BarrierPos a code names, or none (11.4). -/
def BarrierPos.ofCode : Nat → Option BarrierPos
  | 0 => some .up
  | 1 => some .down
  | _ => none

/-- Code of a Arrow (11.4). -/
def Arrow.toCode : Arrow → Nat
  | .straight => 0
  | .left => 1
  | .right => 2
  | .turn => 3
  | .noArrow => 4

/-- The Arrow a code names, or none (11.4). -/
def Arrow.ofCode : Nat → Option Arrow
  | 0 => some .straight
  | 1 => some .left
  | 2 => some .right
  | 3 => some .turn
  | 4 => some .noArrow
  | _ => none

/-- Code of a LaneMode (11.4). -/
def LaneMode.toCode : LaneMode → Nat
  | .closed => 0
  | .warming => 1
  | .openIn => 2
  | .openOut => 3
  | .draining => 4

/-- Code of a HoldCause (11.4). -/
def HoldCause.toCode : HoldCause → Nat
  | .operator => 0
  | .rule => 1
  | .audit => 2
  | .stall => 3
  | .fault => 4

/-- Code of a WindowKind (11.4). -/
def WindowKind.toCode : WindowKind → Nat
  | .read => 0
  | .check => 1

/-- Code of a StepResult (11.4). -/
def StepResult.toCode : StepResult → Nat
  | .direction => 0
  | .barrier => 1
  | .frame => 2
  | .nothing => 3

/-- Code of a TimerState (11.4). -/
def TimerState.toCode : TimerState → Nat
  | .stopped => 0
  | .running => 1
  | .paused => 2

/-- Code of a VisitState (11.4). -/
def VisitState.toCode : VisitState → Nat
  | .free => 0
  | .identifying => 1
  | .checking => 2
  | .waitingBay => 3
  | .directed => 4
  | .referred => 5
  | .closing => 6

/-- Code of a Verdict (11.4). -/
def Verdict.toCode : Verdict → Nat
  | .admitted => 0
  | .refer => 1
  | .reject => 2

/-- The Verdict a code names, or none (11.4). -/
def Verdict.ofCode : Nat → Option Verdict
  | 0 => some .admitted
  | 1 => some .refer
  | 2 => some .reject
  | _ => none

/-- Code of a PolicyClass (11.4). -/
def PolicyClass.toCode : PolicyClass → Nat
  | .note => 0
  | .refer => 1
  | .reject => 2

/-- The PolicyClass a code names, or none (11.4). -/
def PolicyClass.ofCode : Nat → Option PolicyClass
  | 0 => some .note
  | 1 => some .refer
  | 2 => some .reject
  | _ => none

/-- Code of a CloseOutcome (11.4). -/
def CloseOutcome.toCode : CloseOutcome → Nat
  | .admitted => 0
  | .rejected => 1
  | .referredAdmitted => 2
  | .referredRejected => 3
  | .cancelled => 4

/-- Code of a ClosureOutcome (11.4). -/
def ClosureOutcome.toCode : ClosureOutcome → Nat
  | .pending => 0
  | .awaitingRecord => 1
  | .matched => 2
  | .mismatch => 3
  | .broken => 4
  | .missing => 5
  | .unverified => 6
  | .notRequired => 7
  | .notChecked => 8

/-- Code of a DamageOutcome (11.4). -/
def DamageOutcome.toCode : DamageOutcome → Nat
  | .pending => 0
  | .clean => 1
  | .minor => 2
  | .survey => 3
  | .incomplete => 4
  | .notSwept => 5

/-- Code of a BookingKind (11.4). -/
def BookingKind.toCode : BookingKind → Nat
  | .drop => 0
  | .pick => 1

/-- The BookingKind a code names, or none (11.4). -/
def BookingKind.ofCode : Nat → Option BookingKind
  | 0 => some .drop
  | 1 => some .pick
  | _ => none

/-- Code of a BookingState (11.4). -/
def BookingState.toCode : BookingState → Nat
  | .opened => 0
  | .held => 1
  | .entered => 2
  | .closed => 3
  | .cancelled => 4

/-- Code of a ClosureReq (11.4). -/
def ClosureReq.toCode : ClosureReq → Nat
  | .noCheck => 0
  | .listed => 1
  | .intactOnly => 2

/-- The ClosureReq a code names, or none (11.4). -/
def ClosureReq.ofCode : Nat → Option ClosureReq
  | 0 => some .noCheck
  | 1 => some .listed
  | 2 => some .intactOnly
  | _ => none

/-- Code of a LoadResult (11.4). -/
def LoadResult.toCode : LoadResult → Nat
  | .added => 0
  | .replaced => 1

/-- Code of a SweepPhase (11.4). -/
def SweepPhase.toCode : SweepPhase → Nat
  | .idle => 0
  | .running => 1

/-- Code of a SweepEnd (11.4). -/
def SweepEnd.toCode : SweepEnd → Nat
  | .ended => 0
  | .stopped => 1

/-- Code of a Measure (11.4). -/
def Measure.toCode : Measure → Nat
  | .severity => 0
  | .extent => 1

/-- The Measure a code names, or none (11.4). -/
def Measure.ofCode : Nat → Option Measure
  | 0 => some .severity
  | 1 => some .extent
  | _ => none

/-- Code of a Condition (11.4). -/
def Condition.toCode : Condition → Nat
  | .ne => 0
  | .eq => 1
  | .lt => 2
  | .gt => 3

/-- The Condition a code names, or none (11.4). -/
def Condition.ofCode : Nat → Option Condition
  | 0 => some .ne
  | 1 => some .eq
  | 2 => some .lt
  | 3 => some .gt
  | _ => none

/-- Code of a Combine (11.4). -/
def Combine.toCode : Combine → Nat
  | .either => 0
  | .both => 1
  | .bAfterA => 2
  | .aAfterB => 3

/-- The Combine a code names, or none (11.4). -/
def Combine.ofCode : Nat → Option Combine
  | 0 => some .either
  | 1 => some .both
  | 2 => some .bAfterA
  | 3 => some .aAfterB
  | _ => none

/-- Code of a RuleAction (11.4). -/
def RuleAction.toCode : RuleAction → Nat
  | .minor => 0
  | .survey => 1
  | .hold => 2

/-- The RuleAction a code names, or none (11.4). -/
def RuleAction.ofCode : Nat → Option RuleAction
  | 0 => some .minor
  | 1 => some .survey
  | 2 => some .hold
  | _ => none

/-- Code of a DirClass (11.4). -/
def DirClass.toCode : DirClass → Nat
  | .admitIn => 0
  | .admitOut => 1
  | .refer => 2
  | .reject => 3

/-- The DirClass a code names, or none (11.4). -/
def DirClass.ofCode : Nat → Option DirClass
  | 0 => some .admitIn
  | 1 => some .admitOut
  | 2 => some .refer
  | 3 => some .reject
  | _ => none

/-- Code of a TrailCause (11.4). -/
def TrailCause.toCode : TrailCause → Nat
  | .verdict => 0
  | .override => 1
  | .redirect => 2
  | .resolve => 3

/-- Code of a HoldKind (11.4). -/
def HoldKind.toCode : HoldKind → Nat
  | .customs => 0
  | .security => 1
  | .inspection => 2

/-- The HoldKind a code names, or none (11.4). -/
def HoldKind.ofCode : Nat → Option HoldKind
  | 0 => some .customs
  | 1 => some .security
  | 2 => some .inspection
  | _ => none

/-- Code of a EventKind (11.4). -/
def EventKind.toCode : EventKind → Nat
  | .laneMode => 0
  | .laneHeld => 1
  | .parked => 2
  | .closureMiss => 3
  | .bayWait => 4
  | .fault => 5
  | .authLink => 6
  | .notice => 7
  | .holdChange => 8

/-- Code of a FaultKind (11.4). -/
def FaultKind.toCode : FaultKind → Nat
  | .badCheck => 0
  | .malformed => 1
  | .unknownClass => 2
  | .rxOverflow => 3
  | .seqGap => 4
  | .unexpected => 5
  | .stale => 6
  | .signTimeout => 7
  | .warmupFail => 8

/-- Code of a ResetCause (11.4). -/
def ResetCause.toCode : ResetCause → Nat
  | .powerOn => 0
  | .resetLine => 1
  | .restart => 2

/-- Code of a LinkState (11.4). -/
def LinkState.toCode : LinkState → Nat
  | .down => 0
  | .up => 1

/-- Code of a Status (11.4). -/
def Status.toCode : Status → Nat
  | .ok => 0
  | .busy => 1
  | .full => 2
  | .duplicate => 3
  | .notFound => 4
  | .badValue => 5
  | .state => 6
  | .inUse => 7
  | .denied => 8
  | .unknown => 9

/-- Code of a Reason (11.4). -/
def Reason.toCode : Reason → Nat
  | .noBooking => 0
  | .bookingState => 1
  | .plateMismatch => 2
  | .cardMismatch => 3
  | .codeInvalid => 4
  | .lowConfidence => 5
  | .readMissing => 6
  | .readConflict => 7
  | .early => 8
  | .lateReslotted => 9
  | .lateNoSpace => 10
  | .clockUnset => 11
  | .closureMismatch => 12
  | .closureBroken => 13
  | .closureMissing => 14
  | .closureUnverified => 15
  | .damageMinor => 16
  | .damageSurvey => 17
  | .sweepIncomplete => 18
  | .authHold => 19
  | .operator => 20

/-- The Reason a code names, or none (11.4). -/
def Reason.ofCode : Nat → Option Reason
  | 0 => some .noBooking
  | 1 => some .bookingState
  | 2 => some .plateMismatch
  | 3 => some .cardMismatch
  | 4 => some .codeInvalid
  | 5 => some .lowConfidence
  | 6 => some .readMissing
  | 7 => some .readConflict
  | 8 => some .early
  | 9 => some .lateReslotted
  | 10 => some .lateNoSpace
  | 11 => some .clockUnset
  | 12 => some .closureMismatch
  | 13 => some .closureBroken
  | 14 => some .closureMissing
  | 15 => some .closureUnverified
  | 16 => some .damageMinor
  | 17 => some .damageSurvey
  | 18 => some .sweepIncomplete
  | 19 => some .authHold
  | 20 => some .operator
  | _ => none

/-! ### Field encoding (R182) -/

/-- A number of `w` bytes, high byte first (R182). -/
def num : Nat → Nat → List Byte
  | 0, _ => []
  | w + 1, n => BitVec.ofNat 8 (n / 256 ^ w) :: num w n

/-- The number that bytes give, high byte first (R182). -/
def ofBytes (bs : List Byte) : Nat := bs.foldl (fun n b => n * 256 + b.toNat) 0

/-- A set as its mask, in whole bytes (R182). -/
def maskBytes {n : Nat} (m : BitVec n) : List Byte := num ((n + 7) / 8) m.toNat

/-- The bytes that a set of a port's fault kinds takes: 1 for the four kinds of a link port, 2 for the nine of a lane port (R175, R182). -/
def kindWidth (port : Nat) : Nat := if port = 16 ∨ port = 17 then 1 else 2

/-- A set of a port's fault kinds as its mask (R175, R182). -/
def kindBytes (port : Nat) (kinds : BitVec 16) : List Byte := num (kindWidth port) kinds.toNat

/-- A flag, 00h or 01h (R182). -/
def flagByte (b : Bool) : List Byte := [if b then 1 else 0]

/-- A text: its length and its characters (R182). -/
def textBytes (t : Text) : List Byte := BitVec.ofNat 8 t.length :: t

/-- An optional field with its presence byte (R182). -/
def optBytes {α : Type} (enc : α → List Byte) : Option α → List Byte
  | none => [0]
  | some x => 1 :: enc x

/-- A list: its count in one byte, then its members (the form of the record's carried and pick lists, 11.3; log 8). -/
def listOf {α : Type} (enc : α → List Byte) (xs : List α) : List Byte :=
  BitVec.ofNat 8 xs.length :: xs.flatMap enc

/-- A list of texts (log 8). -/
def textsBytes (ts : List Text) : List Byte := listOf textBytes ts

/-! ### CRCs (R182) -/

/-- One bit of the CRC-16, polynomial 1021h, most significant bit first. -/
def crc16Bit (c : BitVec 16) : BitVec 16 := if c.msb then (c <<< 1) ^^^ 0x1021#16 else c <<< 1

/-- The CRC-16 of bytes, from FFFFh (R182). -/
def crc16 (bs : List Byte) : BitVec 16 :=
  bs.foldl (fun (c : BitVec 16) (b : Byte) => Nat.repeat crc16Bit 8 (c ^^^ (BitVec.setWidth 16 b <<< 8))) 0xFFFF#16

/-- One bit of the CRC-32, polynomial 04C11DB7h, most significant bit first. -/
def crc32Bit (c : BitVec 32) : BitVec 32 := if c.msb then (c <<< 1) ^^^ 0x04C11DB7#32 else c <<< 1

/-- The CRC-32 of bytes, from FFFFFFFFh, complemented (R182). -/
def crc32 (bs : List Byte) : BitVec 32 :=
  ~~~(bs.foldl (fun (c : BitVec 32) (b : Byte) => Nat.repeat crc32Bit 8 (c ^^^ (BitVec.setWidth 32 b <<< 24))) 0xFFFFFFFF#32)

/-! ### Frames (11.2, 11.3) -/

/-- A lane frame: class, sequence and payload (01, section 1.2). -/
structure LaneFrame where
  cls : Byte
  seq : Byte
  payload : List Byte
  deriving DecidableEq, Repr

/-- Class, sequence, length and payload: what the CRC-16 covers (11.2). -/
def LaneFrame.covered (f : LaneFrame) : List Byte :=
  f.cls :: f.seq :: BitVec.ofNat 8 f.payload.length :: f.payload

/-- A lane frame as it stands on the line (11.2). -/
def LaneFrame.wire (f : LaneFrame) : List Byte :=
  Config.laneStart :: f.covered ++ num 2 (crc16 f.covered).toNat

/-- A management frame: kind, tag and body (09, section 9.1). -/
structure MgmtFrame where
  kind : Byte
  tag : Byte
  body : List Byte
  deriving DecidableEq, Repr

/-- Kind, tag, length and body: what the CRC-32 covers (11.3). -/
def MgmtFrame.covered (f : MgmtFrame) : List Byte :=
  f.kind :: f.tag :: num 2 f.body.length ++ f.body

/-- A management frame as it stands on the line (11.3). -/
def MgmtFrame.wire (f : MgmtFrame) : List Byte :=
  Config.mgmtStart :: f.covered ++ num 4 (crc32 f.covered).toNat

/-- The kind code of a REQUEST frame (11.3). -/
def kindRequest : Byte := 0x01#8
/-- The kind code of a REPLY frame (11.3). -/
def kindReply : Byte := 0x02#8
/-- The kind code of a RECORD frame (11.3). -/
def kindRecord : Byte := 0x03#8
/-- The kind code of an EVENT frame (11.3). -/
def kindEvent : Byte := 0x04#8
/-- The kind code of an ATTENTION frame (11.3). -/
def kindAttention : Byte := 0x05#8

/-! ### Text (conventions, R1) -/

/-- A character of 0 to 9. -/
def isDigit (b : Byte) : Bool := 0x30 ≤ b.toNat && b.toNat ≤ 0x39
/-- A character of A to Z. -/
def isLetter (b : Byte) : Bool := 0x41 ≤ b.toNat && b.toNat ≤ 0x5A
/-- One of the 37 permitted characters: 0 to 9, A to Z and space. -/
def isTextChar (b : Byte) : Bool := isDigit b || isLetter b || b.toNat == 0x20
/-- A text of permitted characters with a length from `lo` to `hi`. -/
def textOk (lo hi : Nat) (t : Text) : Bool := lo ≤ t.length && t.length ≤ hi && t.all isTextChar
/-- A plate: 1 to 12 characters. -/
def plateOk (t : Text) : Bool := textOk 1 12 t
/-- A driver card number: 1 to 16 digits. -/
def cardOk (t : Text) : Bool := 1 ≤ t.length && t.length ≤ 16 && t.all isDigit
/-- A seal number: 1 to 15 characters. -/
def sealOk (t : Text) : Bool := textOk 1 15 t
/-- A container code's form: 11 characters of the permitted set. -/
def codeForm (t : Text) : Bool := textOk 11 11 t

/-- The value of a character in the check value: digits their own, letters from 10 upward skipping 11, 22 and 33 (R1). -/
def charValue (b : Byte) : Nat :=
  if isDigit b then b.toNat - 0x30
  else
    let i := b.toNat - 0x41
    10 + i + (if i ≥ 1 then 1 else 0) + (if i ≥ 11 then 1 else 0) + (if i ≥ 21 then 1 else 0)

/-- The sum of the values of characters, each multiplied by 2 raised to its position from `p` (R1). -/
def checkSum : Nat → Text → Nat
  | _, [] => 0
  | p, b :: bs => charValue b * 2 ^ p + checkSum (p + 1) bs

/-- The check value of a code's first ten characters (R1). -/
def checkValue (t : Text) : Nat :=
  let r := checkSum 0 (t.take 10) % 11
  if r = 10 then 0 else r

/-- A valid container code (R1): three owner letters, a category U, J or Z, six digits, and the check digit. -/
def codeValid (t : Text) : Bool :=
  t.length == 11 && (t.take 3).all isLetter
    && ((t.drop 3).take 1).all (fun b => b == 0x55#8 || b == 0x4A#8 || b == 0x5A#8)
    && ((t.drop 4).take 6).all isDigit
    && (t.drop 10).all (fun b => isDigit b && b.toNat - 0x30 == checkValue t)

/-! ### Contents of inbound lane frames (R13, R14, R15, 11.2) -/

/-- The contents of a visit-bearing frame (R13). -/
inductive InFrame where
  | arrive (load : LoadClass)
  | plate (confidence : Nat) (plate : Text)
  | card (card : Text)
  | code (position : Position) (confidence : Nat) (code : Text)
  | closure (position : Position) (source : Source) (tagState : Option TagState) (confidence : Nat) (sealNo : Text)
  | find (sweep : BitVec 16) (position : Position) (panel : Panel) (zone : Nat) (defect : Defect) (severity extent : Nat)
  | sweepEnd (sweep : BitVec 16) (status : SweepStatus) (count : Nat)
  | clear
  deriving DecidableEq, Repr

/-- What a received lane frame is: of an unknown class, of bad contents, or one of the inbound classes. -/
inductive Content where
  | unknownClass | malformed
  | visit (f : InFrame)
  | ready (unit : UnitKind)
  | ackSign (echo : Byte)
  | ackBarrier (echo : Byte) (position : BarrierPos)
  deriving DecidableEq, Repr

/-- A value, where a condition holds. -/
def guardSome {α : Type} (c : Bool) (x : α) : Option α := if c then some x else none

/-- The payload of ARRIVE. -/
def arrivePayload : List Byte → Option InFrame
  | [l] => (LoadClass.ofCode l.toNat).map .arrive
  | _ => none

/-- The payload of PLATE. -/
def platePayload : List Byte → Option InFrame
  | c :: n :: t => guardSome (c.toNat ≤ 100 && n.toNat == t.length && plateOk t) (.plate c.toNat t)
  | _ => none

/-- The payload of CARD. -/
def cardPayload : List Byte → Option InFrame
  | n :: t => guardSome (n.toNat == t.length && cardOk t) (.card t)
  | _ => none

/-- The payload of CODE. -/
def codePayload : List Byte → Option InFrame
  | p :: c :: t => do
    let pos ← Position.ofCode p.toNat
    guardSome (c.toNat ≤ 100 && codeForm t) (.code pos c.toNat t)
  | _ => none

/-- The payload of CLOSURE: the tag state is present exactly when the source is TAG. -/
def closurePayload : List Byte → Option InFrame
  | p :: s :: rest => do
    let pos ← Position.ofCode p.toNat
    match ← Source.ofCode s.toNat, rest with
    | .tag, g :: c :: n :: t => do
      let tag ← TagState.ofCode g.toNat
      guardSome (c.toNat ≤ 100 && n.toNat == t.length && sealOk t) (.closure pos .tag (some tag) c.toNat t)
    | .camera, c :: n :: t =>
      guardSome (c.toNat ≤ 100 && n.toNat == t.length && sealOk t) (.closure pos .camera none c.toNat t)
    | _, _ => none
  | _ => none

/-- The payload of FIND. -/
def findPayload : List Byte → Option InFrame
  | [n1, n0, p, pa, z, d, sv, e1, e0] => do
    let pos ← Position.ofCode p.toNat
    let panel ← Panel.ofCode pa.toNat
    let defect ← Defect.ofCode d.toNat
    guardSome (z.toNat ≤ 15 && sv.toNat ≤ 15 && ofBytes [e1, e0] ≤ 1023)
      (.find (n1 ++ n0) pos panel z.toNat defect sv.toNat (ofBytes [e1, e0]))
  | _ => none

/-- The payload of SWEEP_END. -/
def sweepEndPayload : List Byte → Option InFrame
  | [n1, n0, st, c1, c0] => do
    let status ← SweepStatus.ofCode st.toNat
    guardSome (ofBytes [c1, c0] ≤ 1023) (.sweepEnd (n1 ++ n0) status (ofBytes [c1, c0]))
  | _ => none

/-- The payload of CLEAR. -/
def clearPayload : List Byte → Option InFrame
  | [] => some .clear
  | _ => none

/-- The payload of READY. -/
def readyPayload : List Byte → Option UnitKind
  | [u] => UnitKind.ofCode u.toNat
  | _ => none

/-- The payload of ACK: SIGN with the echoed sequence, BARRIER with the position too (R15). -/
def ackPayload : List Byte → Content
  | [u, e] => if u.toNat = UnitKind.sign.toCode then .ackSign e else .malformed
  | [u, e, p] =>
    if u.toNat = UnitKind.barrier.toCode then
      match BarrierPos.ofCode p.toNat with
      | some pos => .ackBarrier e pos
      | none => .malformed
    else .malformed
  | _ => .malformed

/-- A visit-bearing frame whose payload was read, or a malformed one. -/
def visitContent : Option InFrame → Content
  | some f => .visit f
  | none => .malformed

/-- A READY whose payload was read, or a malformed one. -/
def readyContent : Option UnitKind → Content
  | some u => .ready u
  | none => .malformed

/-- The class and content checks of a received frame (R8, R9, 11.2). -/
def LaneFrame.content (f : LaneFrame) : Content :=
  match f.cls.toNat with
  | 0x01 => visitContent (arrivePayload f.payload)
  | 0x02 => visitContent (platePayload f.payload)
  | 0x03 => visitContent (cardPayload f.payload)
  | 0x04 => visitContent (codePayload f.payload)
  | 0x05 => visitContent (closurePayload f.payload)
  | 0x06 => visitContent (findPayload f.payload)
  | 0x07 => visitContent (sweepEndPayload f.payload)
  | 0x08 => visitContent (clearPayload f.payload)
  | 0x09 => readyContent (readyPayload f.payload)
  | 0x0A => ackPayload f.payload
  | _ => .unknownClass

/-! ### Reading request bodies (R182, R183) -/

/-- A number of `w` bytes from the front. -/
def rdNum (w : Nat) (b : List Byte) : Option (Nat × List Byte) :=
  if b.length < w then none else some (ofBytes (b.take w), b.drop w)

/-- A coded name from the front. -/
def rdEnum {α : Type} (f : Nat → Option α) : List Byte → Option (α × List Byte)
  | [] => none
  | c :: b => (f c.toNat).map fun x => (x, b)

/-- A flag from the front: 00h or 01h. -/
def rdFlag : List Byte → Option (Bool × List Byte)
  | [] => none
  | c :: b => if c = 0 then some (false, b) else if c = 1 then some (true, b) else none

/-- A set of `w` bytes from the front. -/
def rdMask (w : Nat) (b : List Byte) : Option (BitVec (8 * w) × List Byte) :=
  (rdNum w b).map fun p => (BitVec.ofNat (8 * w) p.1, p.2)

/-- A set of a port's fault kinds from the front. -/
def rdKinds (port : Nat) (b : List Byte) : Option (BitVec 16 × List Byte) :=
  (rdNum (kindWidth port) b).map fun p => (BitVec.ofNat 16 p.1, p.2)

/-- A container code from the front. -/
def rdCode (b : List Byte) : Option (Text × List Byte) :=
  if b.length < 11 then none else some (b.take 11, b.drop 11)

/-- A text from the front: its length, then its characters. -/
def rdText : List Byte → Option (Text × List Byte)
  | [] => none
  | n :: b => if b.length < n.toNat then none else some (b.take n.toNat, b.drop n.toNat)

/-- An optional field from the front: its presence byte, then the field. -/
def rdOpt {α : Type} (rd : List Byte → Option (α × List Byte)) : List Byte → Option (Option α × List Byte)
  | [] => none
  | c :: b =>
    if c = 0 then some (none, b)
    else if c = 1 then (rd b).map fun p => (some p.1, p.2)
    else none

/-- `n` texts from the front. -/
def rdTextsN : Nat → List Byte → Option (List Text × List Byte)
  | 0, b => some ([], b)
  | n + 1, b => do
    let (t, b) ← rdText b
    let (ts, b) ← rdTextsN n b
    some (t :: ts, b)

/-- A list of texts from the front (log 8). -/
def rdTexts : List Byte → Option (List Text × List Byte)
  | [] => none
  | n :: b => rdTextsN n.toNat b

/-- All the bytes that are left. -/
def rdRest (b : List Byte) : Option (List Byte × List Byte) := some (b, [])

/-- The twelve fields of a profile, in the order of section 2.3. -/
def rdProfile (b : List Byte) : Option (Profile × List Byte) := do
  let (required, b) ← rdMask 1 b
  let (warmup, b) ← rdNum 2 b
  let (readWindow, b) ← rdNum 2 b
  let (checkWindow, b) ← rdNum 2 b
  let (barrierWindow, b) ← rdNum 2 b
  let (signAck, b) ← rdNum 1 b
  let (reread, b) ← rdFlag b
  let (plateThreshold, b) ← rdNum 1 b
  let (codeThreshold, b) ← rdNum 1 b
  let (audit, b) ← rdNum 1 b
  let (rules, b) ← rdMask 2 b
  let (panels, b) ← rdMask 1 b
  some ({ required, warmup, readWindow, checkWindow, barrierWindow, signAck, reread, plateThreshold, codeThreshold,
          audit, rules, panels }, b)

/-- The twelve fields of a profile as bytes. -/
def Profile.encode (p : Profile) : List Byte :=
  maskBytes p.required ++ num 2 p.warmup ++ num 2 p.readWindow ++ num 2 p.checkWindow ++ num 2 p.barrierWindow
    ++ num 1 p.signAck ++ flagByte p.reread ++ num 1 p.plateThreshold ++ num 1 p.codeThreshold ++ num 1 p.audit
    ++ maskBytes p.rules ++ maskBytes p.panels

/-- The fields of a matcher, in the order of section 6.6; its value takes 2 bytes for both measures (log 8). -/
def rdMatcher (b : List Byte) : Option (Matcher × List Byte) := do
  let (panels, b) ← rdMask 1 b
  let (defects, b) ← rdMask 1 b
  let (measure, b) ← rdEnum Measure.ofCode b
  let (condition, b) ← rdEnum Condition.ofCode b
  let (value, b) ← rdNum 2 b
  some ({ panels, defects, measure, condition, value }, b)

/-- The fields of a matcher as bytes; its value takes 2 bytes for both measures (log 8). -/
def Matcher.encode (m : Matcher) : List Byte :=
  maskBytes m.panels ++ maskBytes m.defects ++ num 1 m.measure.toCode ++ num 1 m.condition.toCode ++ num 2 m.value

/-- The fields of a rule, in the order of section 6.6. -/
def rdRule (b : List Byte) : Option (Rule × List Byte) := do
  let (enabled, b) ← rdFlag b
  let (ma, b) ← rdMatcher b
  let (mb, b) ← rdOpt rdMatcher b
  let (combine, b) ← rdEnum Combine.ofCode b
  let (tolerance, b) ← rdNum 1 b
  let (action, b) ← rdEnum RuleAction.ofCode b
  some ({ enabled, a := ma, b := mb, combine, tolerance, action }, b)

/-- The fields of a rule as bytes. -/
def Rule.encode (r : Rule) : List Byte :=
  flagByte r.enabled ++ r.a.encode ++ optBytes Matcher.encode r.b ++ num 1 r.combine.toCode ++ num 1 r.tolerance
    ++ num 1 r.action.toCode

/-- The route key of a direction: 255 is ANY (11.4). -/
def keyCode : Option Nat → Nat
  | none => 255
  | some k => k

/-- The route key a code gives: 255 is ANY (11.4). -/
def keyOfCode (n : Nat) : Option Nat := if n = 255 then none else some n

/-- The fields of a direction entry, in the order of R131. -/
def rdDirection (b : List Byte) : Option (Direction × List Byte) := do
  let (cls, b) ← rdEnum DirClass.ofCode b
  let (key, b) ← rdNum 1 b
  let (message, b) ← rdNum 1 b
  let (arrow, b) ← rdEnum Arrow.ofCode b
  some ({ cls, key := keyOfCode key, message, arrow }, b)

/-- The fields of a direction entry as bytes. -/
def Direction.encode (d : Direction) : List Byte :=
  num 1 d.cls.toCode ++ num 1 (keyCode d.key) ++ num 1 d.message ++ num 1 d.arrow.toCode

/-- The fields LOAD_BOOKING carries, in the order of section 4.1. -/
def rdBooking (b : List Byte) : Option (BookingLoad × List Byte) := do
  let (ref, b) ← rdNum 4 b
  let (kind, b) ← rdEnum BookingKind.ofCode b
  let (code, b) ← rdCode b
  let (card, b) ← rdOpt rdText b
  let (plate, b) ← rdOpt rdText b
  let (window, b) ← rdNum 1 b
  let (closure, b) ← rdEnum ClosureReq.ofCode b
  let (yard, b) ← rdNum 1 b
  some ({ ref, kind, code, card, plate, window, closure, yard }, b)

/-- The fields LOAD_BOOKING carries as bytes. -/
def BookingLoad.encode (f : BookingLoad) : List Byte :=
  num 4 f.ref ++ num 1 f.kind.toCode ++ f.code ++ optBytes textBytes f.card ++ optBytes textBytes f.plate ++ num 1 f.window
    ++ num 1 f.closure.toCode ++ num 1 f.yard

/-- The selector of READ_VISIT: number 0, index 1 (R182, R65). -/
def rdVisitSel : List Byte → Option (VisitSel × List Byte)
  | [] => none
  | s :: b =>
    if s = 0 then (rdNum 2 b).map fun p => (.number p.1, p.2)
    else if s = 1 then (rdNum 1 b).map fun p => (.index p.1, p.2)
    else none

/-- The selector of READ_VISIT as bytes. -/
def VisitSel.encode : VisitSel → List Byte
  | .number n => 0 :: num 2 n
  | .index i => 1 :: num 1 i

/-- The selector of READ_BOOKING: reference 0, index 1 (R182, R75). -/
def rdBookingSel : List Byte → Option (BookingSel × List Byte)
  | [] => none
  | s :: b =>
    if s = 0 then (rdNum 4 b).map fun p => (.ref p.1, p.2)
    else if s = 1 then (rdNum 2 b).map fun p => (.index p.1, p.2)
    else none

/-- The selector of READ_BOOKING as bytes. -/
def BookingSel.encode : BookingSel → List Byte
  | .ref r => 0 :: num 4 r
  | .index i => 1 :: num 2 i

/-- The selector of READ_CLOSURE: code 0, index 1, rank 2 (R182, R102). -/
def rdClosureSel : List Byte → Option (ClosureSel × List Byte)
  | [] => none
  | s :: b =>
    if s = 0 then (rdCode b).map fun p => (.code p.1, p.2)
    else if s = 1 then (rdNum 2 b).map fun p => (.index p.1, p.2)
    else if s = 2 then (rdNum 2 b).map fun p => (.rank p.1, p.2)
    else none

/-- The selector of READ_CLOSURE as bytes. -/
def ClosureSel.encode : ClosureSel → List Byte
  | .code c => 0 :: c
  | .index i => 1 :: num 2 i
  | .rank r => 2 :: num 2 r

/-- The selector of READ_HOLD: code 0, index 1 (R182, R150). -/
def rdHoldSel : List Byte → Option (HoldSel × List Byte)
  | [] => none
  | s :: b =>
    if s = 0 then (rdCode b).map fun p => (.code p.1, p.2)
    else if s = 1 then (rdNum 2 b).map fun p => (.index p.1, p.2)
    else none

/-- The selector of READ_HOLD as bytes. -/
def HoldSel.encode : HoldSel → List Byte
  | .code c => 0 :: c
  | .index i => 1 :: num 2 i

/-- A body read to its end (R183: exactly the length its fields give). -/
def finish (b : List Byte) (r : Request) : Option Request := if b.isEmpty then some r else none

/-! ### Requests (11.3) -/

/-- The code of a request (11.3). -/
def Request.code : Request → Byte
  | .openLane .. => 0x10#8
  | .setDirection .. => 0x11#8
  | .closeLane .. => 0x12#8
  | .holdLane .. => 0x13#8
  | .stepLane .. => 0x14#8
  | .resumeLane .. => 0x15#8
  | .resetLane .. => 0x16#8
  | .readLane .. => 0x17#8
  | .writeProfile .. => 0x18#8
  | .readProfile .. => 0x19#8
  | .assignProfile .. => 0x1A#8
  | .setVerdict .. => 0x20#8
  | .resolve .. => 0x21#8
  | .cancelVisit .. => 0x22#8
  | .readVisit .. => 0x23#8
  | .setBays .. => 0x24#8
  | .writePolicy .. => 0x25#8
  | .readPolicy => 0x26#8
  | .loadBooking .. => 0x30#8
  | .cancelBooking .. => 0x31#8
  | .purgeBooking .. => 0x32#8
  | .readBooking .. => 0x33#8
  | .findBooking .. => 0x34#8
  | .loadWindow .. => 0x35#8
  | .removeWindow .. => 0x36#8
  | .readWindow .. => 0x37#8
  | .setClock .. => 0x38#8
  | .readClock => 0x39#8
  | .setSlack .. => 0x3A#8
  | .loadClosure .. => 0x40#8
  | .removeClosure .. => 0x41#8
  | .setRetain .. => 0x42#8
  | .readClosure .. => 0x43#8
  | .writeRule .. => 0x48#8
  | .readRule .. => 0x49#8
  | .readSweep .. => 0x4A#8
  | .writeDirection .. => 0x50#8
  | .clearDirection .. => 0x51#8
  | .readDirection .. => 0x52#8
  | .writeMessage .. => 0x53#8
  | .readMessage .. => 0x54#8
  | .trailFreeze => 0x55#8
  | .trailRead => 0x56#8
  | .trailThaw => 0x57#8
  | .addHold .. => 0x60#8
  | .removeHold .. => 0x61#8
  | .readHold .. => 0x62#8
  | .raiseNotice .. => 0x63#8
  | .clearNotice .. => 0x64#8
  | .maskNotice .. => 0x65#8
  | .unmaskNotice .. => 0x66#8
  | .readNotice => 0x67#8
  | .writeSlot .. => 0x68#8
  | .readSlot .. => 0x69#8
  | .setEventEnable .. => 0x70#8
  | .readStatus => 0x71#8
  | .restart => 0x72#8
  | .clearFaults .. => 0x78#8
  | .setFaultMask .. => 0x79#8
  | .setFaultSeverity .. => 0x7A#8
  | .readFaults .. => 0x7B#8

/-- The fields of a request as bytes, after its code (11.3, log 8). -/
def Request.encode : Request → List Byte
  | .openLane lane dir => num 1 lane ++ num 1 dir.toCode
  | .setDirection lane dir => num 1 lane ++ num 1 dir.toCode
  | .closeLane lane => num 1 lane
  | .holdLane lane => num 1 lane
  | .stepLane lane => num 1 lane
  | .resumeLane lane => num 1 lane
  | .resetLane lane => num 1 lane
  | .readLane lane => num 1 lane
  | .writeProfile index fields => num 1 index ++ fields.encode
  | .readProfile index => num 1 index
  | .assignProfile lane index => num 1 lane ++ num 1 index
  | .setVerdict lane verdict => num 1 lane ++ num 1 verdict.toCode
  | .resolve visit outcome => num 2 visit ++ num 1 outcome.toCode
  | .cancelVisit visit => num 2 visit
  | .readVisit sel => sel.encode
  | .setBays count => num 1 count
  | .writePolicy reason cls => num 1 reason.toCode ++ num 1 cls.toCode
  | .readPolicy => []
  | .loadBooking fields => fields.encode
  | .cancelBooking ref => num 4 ref
  | .purgeBooking ref => num 4 ref
  | .readBooking sel => sel.encode
  | .findBooking code kind => code ++ num 1 kind.toCode
  | .loadWindow index start length capacity => num 1 index ++ num 3 start ++ num 1 length ++ num 1 capacity
  | .removeWindow index => num 1 index
  | .readWindow index => num 1 index
  | .setClock minute second => num 3 minute ++ num 1 second
  | .readClock => []
  | .setSlack early late => num 1 early ++ num 1 late
  | .loadClosure code seals => code ++ textsBytes seals
  | .removeClosure code => code
  | .setRetain code value => code ++ flagByte value
  | .readClosure sel => sel.encode
  | .writeRule index rule => num 1 index ++ rule.encode
  | .readRule index => num 1 index
  | .readSweep lane => num 1 lane
  | .writeDirection index entry => num 1 index ++ entry.encode
  | .clearDirection index => num 1 index
  | .readDirection index => num 1 index
  | .writeMessage index items => num 1 index ++ textBytes items
  | .readMessage index => num 1 index
  | .trailFreeze => []
  | .trailRead => []
  | .trailThaw => []
  | .addHold code kind ref => code ++ num 1 kind.toCode ++ num 4 ref
  | .removeHold code => code
  | .readHold sel => sel.encode
  | .raiseNotice flags => maskBytes flags
  | .clearNotice flags => maskBytes flags
  | .maskNotice flags => maskBytes flags
  | .unmaskNotice flags => maskBytes flags
  | .readNotice => []
  | .writeSlot slot bytes => num 1 slot ++ bytes
  | .readSlot slot => num 1 slot
  | .setEventEnable kinds => maskBytes kinds
  | .readStatus => []
  | .restart => []
  | .clearFaults port kinds => num 1 port ++ kindBytes port kinds
  | .setFaultMask port kinds => num 1 port ++ kindBytes port kinds
  | .setFaultSeverity port kinds => num 1 port ++ kindBytes port kinds
  | .readFaults port => num 1 port

/-- The request a code and the bytes after it give; none where they fit no layout (R165, R183). -/
def parseRequest (code : Byte) (body : List Byte) : Option Request :=
  match code.toNat with
  | 0x10 => do let (lane, b) ← rdNum 1 body; let (dir, b) ← rdEnum Dir.ofCode b; finish b (.openLane lane dir)
  | 0x11 => do let (lane, b) ← rdNum 1 body; let (dir, b) ← rdEnum Dir.ofCode b; finish b (.setDirection lane dir)
  | 0x12 => do let (lane, b) ← rdNum 1 body; finish b (.closeLane lane)
  | 0x13 => do let (lane, b) ← rdNum 1 body; finish b (.holdLane lane)
  | 0x14 => do let (lane, b) ← rdNum 1 body; finish b (.stepLane lane)
  | 0x15 => do let (lane, b) ← rdNum 1 body; finish b (.resumeLane lane)
  | 0x16 => do let (lane, b) ← rdNum 1 body; finish b (.resetLane lane)
  | 0x17 => do let (lane, b) ← rdNum 1 body; finish b (.readLane lane)
  | 0x18 => do let (index, b) ← rdNum 1 body; let (fields, b) ← rdProfile b; finish b (.writeProfile index fields)
  | 0x19 => do let (index, b) ← rdNum 1 body; finish b (.readProfile index)
  | 0x1A => do let (lane, b) ← rdNum 1 body; let (index, b) ← rdNum 1 b; finish b (.assignProfile lane index)
  | 0x20 => do let (lane, b) ← rdNum 1 body; let (verdict, b) ← rdEnum Verdict.ofCode b; finish b (.setVerdict lane verdict)
  | 0x21 => do let (visit, b) ← rdNum 2 body; let (outcome, b) ← rdEnum Verdict.ofCode b; finish b (.resolve visit outcome)
  | 0x22 => do let (visit, b) ← rdNum 2 body; finish b (.cancelVisit visit)
  | 0x23 => do let (sel, b) ← rdVisitSel body; finish b (.readVisit sel)
  | 0x24 => do let (count, b) ← rdNum 1 body; finish b (.setBays count)
  | 0x25 => do let (reason, b) ← rdEnum Reason.ofCode body; let (cls, b) ← rdEnum PolicyClass.ofCode b; finish b (.writePolicy reason cls)
  | 0x26 => finish body (.readPolicy)
  | 0x30 => do let (fields, b) ← rdBooking body; finish b (.loadBooking fields)
  | 0x31 => do let (ref, b) ← rdNum 4 body; finish b (.cancelBooking ref)
  | 0x32 => do let (ref, b) ← rdNum 4 body; finish b (.purgeBooking ref)
  | 0x33 => do let (sel, b) ← rdBookingSel body; finish b (.readBooking sel)
  | 0x34 => do let (code, b) ← rdCode body; let (kind, b) ← rdEnum BookingKind.ofCode b; finish b (.findBooking code kind)
  | 0x35 => do let (index, b) ← rdNum 1 body; let (start, b) ← rdNum 3 b; let (length, b) ← rdNum 1 b; let (capacity, b) ← rdNum 1 b; finish b (.loadWindow index start length capacity)
  | 0x36 => do let (index, b) ← rdNum 1 body; finish b (.removeWindow index)
  | 0x37 => do let (index, b) ← rdNum 1 body; finish b (.readWindow index)
  | 0x38 => do let (minute, b) ← rdNum 3 body; let (second, b) ← rdNum 1 b; finish b (.setClock minute second)
  | 0x39 => finish body (.readClock)
  | 0x3A => do let (early, b) ← rdNum 1 body; let (late, b) ← rdNum 1 b; finish b (.setSlack early late)
  | 0x40 => do let (code, b) ← rdCode body; let (seals, b) ← rdTexts b; finish b (.loadClosure code seals)
  | 0x41 => do let (code, b) ← rdCode body; finish b (.removeClosure code)
  | 0x42 => do let (code, b) ← rdCode body; let (value, b) ← rdFlag b; finish b (.setRetain code value)
  | 0x43 => do let (sel, b) ← rdClosureSel body; finish b (.readClosure sel)
  | 0x48 => do let (index, b) ← rdNum 1 body; let (rule, b) ← rdRule b; finish b (.writeRule index rule)
  | 0x49 => do let (index, b) ← rdNum 1 body; finish b (.readRule index)
  | 0x4A => do let (lane, b) ← rdNum 1 body; finish b (.readSweep lane)
  | 0x50 => do let (index, b) ← rdNum 1 body; let (entry, b) ← rdDirection b; finish b (.writeDirection index entry)
  | 0x51 => do let (index, b) ← rdNum 1 body; finish b (.clearDirection index)
  | 0x52 => do let (index, b) ← rdNum 1 body; finish b (.readDirection index)
  | 0x53 => do let (index, b) ← rdNum 1 body; let (items, b) ← rdText b; finish b (.writeMessage index items)
  | 0x54 => do let (index, b) ← rdNum 1 body; finish b (.readMessage index)
  | 0x55 => finish body (.trailFreeze)
  | 0x56 => finish body (.trailRead)
  | 0x57 => finish body (.trailThaw)
  | 0x60 => do let (code, b) ← rdCode body; let (kind, b) ← rdEnum HoldKind.ofCode b; let (ref, b) ← rdNum 4 b; finish b (.addHold code kind ref)
  | 0x61 => do let (code, b) ← rdCode body; finish b (.removeHold code)
  | 0x62 => do let (sel, b) ← rdHoldSel body; finish b (.readHold sel)
  | 0x63 => do let (flags, b) ← rdMask 2 body; finish b (.raiseNotice flags)
  | 0x64 => do let (flags, b) ← rdMask 2 body; finish b (.clearNotice flags)
  | 0x65 => do let (flags, b) ← rdMask 2 body; finish b (.maskNotice flags)
  | 0x66 => do let (flags, b) ← rdMask 2 body; finish b (.unmaskNotice flags)
  | 0x67 => finish body (.readNotice)
  | 0x68 => do let (slot, b) ← rdNum 1 body; let (bytes, b) ← rdRest b; finish b (.writeSlot slot bytes)
  | 0x69 => do let (slot, b) ← rdNum 1 body; finish b (.readSlot slot)
  | 0x70 => do let (kinds, b) ← rdMask 2 body; finish b (.setEventEnable kinds)
  | 0x71 => finish body (.readStatus)
  | 0x72 => finish body (.restart)
  | 0x78 => do let (port, b) ← rdNum 1 body; let (kinds, b) ← rdKinds port b; finish b (.clearFaults port kinds)
  | 0x79 => do let (port, b) ← rdNum 1 body; let (kinds, b) ← rdKinds port b; finish b (.setFaultMask port kinds)
  | 0x7A => do let (port, b) ← rdNum 1 body; let (kinds, b) ← rdKinds port b; finish b (.setFaultSeverity port kinds)
  | 0x7B => do let (port, b) ← rdNum 1 body; finish b (.readFaults port)
  | _ => none

/-- The codes of the authority link's requests: 23h and 60h to 69h (11.3). -/
def authorityCode (c : Byte) : Bool := c.toNat == 0x23 || (0x60 ≤ c.toNat && c.toNat ≤ 0x69)

/-- The codes of the requests of 11.3, which the terminal link carries (R164); ADD_HOLD and REMOVE_HOLD among them are denied there (R165). -/
def terminalCode (c : Byte) : Bool :=
  let n := c.toNat
  (0x10 ≤ n && n ≤ 0x1A) || (0x20 ≤ n && n ≤ 0x26) || (0x30 ≤ n && n ≤ 0x3A) || (0x40 ≤ n && n ≤ 0x43)
    || (0x48 ≤ n && n ≤ 0x4A) || (0x50 ≤ n && n ≤ 0x57) || (0x60 ≤ n && n ≤ 0x69) || (0x70 ≤ n && n ≤ 0x72)
    || (0x78 ≤ n && n ≤ 0x7B)

/-- The code names a request of the link (R147, R165). -/
def Link.knows : Link → Byte → Bool
  | .terminal, c => terminalCode c
  | .authority, c => authorityCode c

end Sys2Proof
end

