-- ==== Sys2Proof/Machine/State.lean ====
section
/-! DEFINITION. The state of the part: plain data, every piece the manual gives it, and the state after power-on reset. -/

namespace Sys2Proof.Machine

/-! ### Lane ports (chapter 1) -/

/-- The trail mark of a SHOW: the visit number, and the serial of the trail entry it names (R139). -/
structure TrailMark where
  visit : Nat
  serial : Option (BitVec 16)
  deriving DecidableEq, Repr

/-- A SHOW frame's contents with the trail mark kept inside the part (R16). -/
structure Show where
  arrow : Arrow
  text : Text
  mark : Option TrailMark
  deriving DecidableEq, Repr

/-- What stands in the SWEEP/STOP holding place (R16). -/
inductive SweepFrame where
  | sweep (number : BitVec 16) (positions panels : BitVec 8)
  | stop (number : BitVec 16)
  deriving DecidableEq, Repr

/-- The sign wait: the sequence of the SHOW awaited, with that SHOW (R19). -/
structure SignWait where
  seq : Byte
  shown : Show
  deriving DecidableEq, Repr

/-- The state of a lane port (01, section 1.1). -/
structure Port where
  /-- line status (R4) -/
  line : LinkState
  /-- the bytes of the frame being received; none in HUNTING (R5) -/
  rx : List Byte
  /-- last inbound sequence (R7) -/
  lastIn : Option Byte
  /-- receive queue, oldest first (R11) -/
  queue : List LaneFrame
  /-- BARRIER holding place (R17) -/
  hpBarrier : Option BarrierCmd
  /-- SHOW holding place (R17) -/
  hpShow : Option Show
  /-- SWEEP/STOP holding place (R17) -/
  hpSweep : Option SweepFrame
  /-- REREAD holding place: the unit set (R17) -/
  hpReread : Option (BitVec 8)
  /-- WAKE holding place (R17) -/
  hpWake : Bool
  /-- outbound sequence counter (R18) -/
  outSeq : Byte
  /-- the frame in transmission (R18) -/
  tx : Option LaneFrame
  /-- sign wait (R19) -/
  signWait : Option SignWait
  /-- sign-ACK timer: its remaining count; paused while the lane is held (R19) -/
  signTimer : Option Nat
  /-- sign-collision flag (R21) -/
  collision : Bool
  /-- last barrier sequence (R18) -/
  lastBarrierSeq : Option Byte
  /-- reported barrier position (R15) -/
  reported : Option BarrierPos
  deriving DecidableEq, Repr

/-! ### Lane control (chapter 2) -/

/-- The state of a lane control unit (02, section 2.1). -/
structure Lcu where
  mode : LaneMode
  /-- target mode -/
  target : Option LaneMode
  /-- ready set -/
  ready : BitVec 8
  /-- hold cause set; the lane is held while it is nonempty -/
  holds : BitVec 8
  /-- pending-direction flag (R38) -/
  pendingDir : Bool
  /-- audit countdown (R41) -/
  audit : Nat
  /-- barrier state, as last commanded (R34) -/
  barrier : BarrierPos
  /-- profile assignment (R32) -/
  profile : Fin 8
  /-- T0: remaining count and window kind; paused while the lane is held (R33) -/
  t0 : Option (Nat × WindowKind)
  /-- T1: remaining count; paused while the lane is held (R34) -/
  t1 : Option Nat
  /-- T2: the count (R36) -/
  t2 : Option Nat
  /-- T3: remaining count (R23) -/
  t3 : Option Nat
  deriving DecidableEq, Repr

/-! ### Sweeps (chapter 6) -/

/-- The match state of one rule for one position (R112). -/
structure MatchState where
  position : Position
  rule : Fin 16
  countdown : Nat
  armed : Bool
  fired : Bool
  deriving DecidableEq, Repr

/-- What a sweep keeps until the lane's next sweep (R112). -/
structure SweepInfo where
  /-- visit number of the swept visit -/
  visit : Nat
  positions : BitVec 8
  panels : BitVec 8
  rules : BitVec 16
  /-- applied count -/
  applied : Nat
  states : List MatchState
  deriving DecidableEq, Repr

/-- The sweep state of a lane (R112). -/
structure Sweep where
  phase : SweepPhase
  /-- next sweep number -/
  next : BitVec 16
  /-- last sweep number -/
  last : Option (BitVec 16)
  /-- last sweep end -/
  lastEnd : Option SweepEnd
  info : Option SweepInfo
  deriving DecidableEq, Repr

/-- Everything the part keeps for one lane. -/
structure Lane where
  port : Port
  lcu : Lcu
  sweep : Sweep
  /-- direction entry reference (R139) -/
  dirRef : Option (BitVec 16)
  /-- the lane's direction is acknowledged (R140) -/
  dirAcked : Bool
  deriving DecidableEq, Repr

/-! ### Visits (chapter 3) -/

/-- One closure read kept in a carried entry (R52). -/
structure ClosureRead where
  sealNo : Text
  source : Source
  tagState : Option TagState
  confidence : Nat
  deriving DecidableEq, Repr

/-- A carried-container entry (03, section 3.1). -/
structure Carried where
  position : Position
  code : Text
  confidence : Nat
  codeValid : Bool
  /-- Booking Table index -/
  booking : Option Nat
  closureReq : Option ClosureReq
  /-- Closure Table index: the pin (R96) -/
  closureIx : Option Nat
  reads : List ClosureRead
  closure : ClosureOutcome
  damage : DamageOutcome
  /-- fired rule set -/
  fired : BitVec 16
  findings : Nat
  worst : Option Nat
  /-- reslot window (R88) -/
  reslot : Option Nat
  holdKind : Option HoldKind
  deriving DecidableEq, Repr

/-- A carried entry of a Gate Transaction Record (R66). -/
structure CarriedRecord where
  position : Position
  code : Text
  /-- booking reference -/
  booking : Option Nat
  closure : ClosureOutcome
  damage : DamageOutcome
  fired : BitVec 16
  findings : Nat
  worst : Option Nat
  reslot : Option Nat
  deriving DecidableEq, Repr

/-- A Gate Transaction Record (R66). -/
structure GateRecord where
  number : Nat
  lane : LaneId
  dir : Dir
  outcome : CloseOutcome
  plate : Option Text
  card : Option Text
  carried : List CarriedRecord
  /-- booking references of the pick bookings -/
  picks : List Nat
  reasons : BitVec 32
  arrival : Option Nat
  t2Verdict : Option Nat
  t2Clear : Option Nat
  bay : Option Nat
  holdsSeen : BitVec 8
  undirected : Bool
  deriving DecidableEq, Repr

/-- An open visit's record (03, section 3.1). A FREE record is the absence of one. -/
structure Visit where
  number : Nat
  state : VisitState
  /-- the bound lane; absent from the release of the lane (R45) -/
  lane : Option LaneId
  grantLane : LaneId
  dir : Dir
  load : LoadClass
  /-- arrival minute -/
  arrival : Option Nat
  /-- plate text and confidence -/
  plate : Option (Text × Nat)
  card : Option Text
  carried : List Carried
  /-- pick bookings: Booking Table indices -/
  picks : List Nat
  reasons : BitVec 32
  verdict : Option Verdict
  bay : Option Nat
  lastBay : Option Nat
  barrierDown : Bool
  /-- hold causes seen (R33a) -/
  holdsSeen : BitVec 8
  rereaded : Bool
  undirected : Bool
  t2Verdict : Option Nat
  t2Clear : Option Nat
  /-- the formed record, present only in CLOSING (R67) -/
  record : Option GateRecord
  deriving DecidableEq, Repr

/-! ### Admission (chapter 4) -/

/-- A Booking Table entry (04, section 4.1). -/
structure Booking where
  ref : Nat
  kind : BookingKind
  code : Text
  card : Option Text
  plate : Option Text
  window : Nat
  closure : ClosureReq
  yard : Nat
  state : BookingState
  /-- held-from state, only when HELD -/
  heldFrom : Option BookingState
  /-- holding visit number, only when HELD -/
  holder : Option Nat
  deriving DecidableEq, Repr

/-- A loaded window (04, section 4.2). -/
structure Window where
  start : Nat
  length : Nat
  capacity : Nat
  used : Nat
  deriving DecidableEq, Repr

/-- The Gate Clock while SET, with the ticks since its last second (R80, R81). -/
structure Clock where
  minute : Nat
  second : Nat
  ticks : Nat
  deriving DecidableEq, Repr

/-! ### Closure Table (chapter 5) -/

/-- A Closure Table entry; its recency rank is its place in the recency order (05, section 5.1). -/
structure ClosureEntry where
  code : Text
  seals : List Text
  retain : Bool
  pins : Nat
  deriving DecidableEq, Repr

/-! ### Directions and the trail (chapter 7) -/

/-- A Decision Trail entry (R141). -/
structure TrailEntry where
  serial : BitVec 16
  visit : Nat
  lane : LaneId
  verdict : Verdict
  reasons : BitVec 32
  cause : TrailCause
  minute : Option Nat
  shown : Bool
  deriving DecidableEq, Repr

/-! ### Authority and terminal (chapters 8 and 9) -/

/-- A Hold List entry (R148). -/
structure HoldEntry where
  code : Text
  kind : HoldKind
  ref : Nat
  placed : Option Nat
  deriving DecidableEq, Repr

/-- A request in its queue: its tag, its code and the bytes after it, and the request they give (none where the body fits no layout). -/
structure QueuedRequest where
  tag : Byte
  code : Byte
  body : List Byte
  request : Option Request
  deriving DecidableEq, Repr

/-- A reply: tag, request code, status, and the result fields that follow OK (R166). -/
structure Reply where
  tag : Byte
  code : Byte
  status : Status
  result : List Byte
  deriving DecidableEq, Repr

/-- A frame in transmission on a management link.
A stray record is one whose Record Queue was emptied by RESTART while it was being sent (R173). -/
inductive MgmtTx where
  | reply (r : Reply)
  | event (kind : EventKind) (source : PortId) (snapshot : List Byte)
  | record (tag : Byte) (r : GateRecord)
  | strayRecord (tag : Byte) (r : GateRecord)
  | attention (word mask : BitVec 16) (presenting : Nat)
  deriving DecidableEq, Repr

/-- The state of a management link: its line, receiver, request queue, reply holding place and transmitter (R147, R164). -/
structure MgmtLink where
  state : LinkState
  /-- the bytes of the frame being received; none in HUNTING (R162) -/
  rx : List Byte
  queue : List QueuedRequest
  reply : Option Reply
  tx : Option MgmtTx
  deriving DecidableEq, Repr

/-! ### Faults (chapter 10) -/

/-- The fault record of a port (R175); a link port's severity set is empty and unused. -/
structure FaultRecord where
  status : BitVec 16
  mask : BitVec 16
  severity : BitVec 16
  /-- first-fault pointer -/
  pointer : Option FaultKind
  /-- header log: the bytes held; none is *no frame* (R177) -/
  log : List Byte
  /-- stale mark -/
  stale : Bool
  deriving DecidableEq, Repr

/-! ### The whole part -/

/-- Entries of a large table by index, indices strictly rising: the occupied places. -/
abbrev Table (α : Type) := List (Nat × α)

/-- The state of the part. -/
structure State where
  /-- the commands that wait, the first in front (log 1) -/
  pending : List Instr
  lanes : Vector Lane 16
  /-- Lane Profile Table -/
  profiles : Vector Profile 8
  /-- Visit Table; none is FREE -/
  visits : Vector (Option Visit) 24
  /-- visit number counter (R46) -/
  visitCounter : Nat
  /-- Parked Arrival Queue, oldest first (R47) -/
  parked : List LaneId
  /-- K, the referral bay count (R58) -/
  bayCount : Nat
  /-- Bay Wait Queue, oldest first (R59) -/
  bayWait : List VisitIx
  /-- the CLOSING visits, oldest first (R67) -/
  closing : List VisitIx
  /-- Reason Policy Table, by reason code (R55) -/
  policy : Vector PolicyClass 19
  /-- Booking Table (R70) -/
  bookings : Table Booking
  /-- Window Table; none is unloaded (R77) -/
  windows : Vector (Option Window) 64
  /-- Gate Clock; none is UNSET (R80) -/
  clock : Option Clock
  earlySlack : Nat
  lateSlack : Nat
  /-- Closure Table (R94) -/
  closures : Table ClosureEntry
  /-- recency order: indices, most recent first (R95) -/
  recency : List Nat
  /-- Damage Rule Table (R120) -/
  rules : Vector Rule 16
  /-- Direction Table (R131) -/
  directions : Vector (Option Direction) 64
  /-- Message Table (R134) -/
  messages : Vector Text 128
  /-- Decision Trail, oldest first (R141) -/
  trail : List TrailEntry
  /-- serial counter (R141) -/
  serial : BitVec 16
  /-- frozen flag (R144) -/
  frozen : Bool
  /-- cursor: a position of the trail (R144) -/
  cursor : Option Nat
  /-- Hold List (R148) -/
  holdList : Table HoldEntry
  authWord : BitVec 16
  authMask : BitVec 16
  termWord : BitVec 16
  termMask : BitVec 16
  /-- message slots (R159) -/
  slots : Vector (List Byte) 8
  /-- authority link -/
  auth : MgmtLink
  /-- attention-pending flag (R157) -/
  attention : Bool
  /-- terminal link -/
  term : MgmtLink
  /-- Record Queue with record tags, oldest first (R167) -/
  records : List (Byte × GateRecord)
  /-- record tag counter (R167) -/
  recordTag : Byte
  /-- event flags: for each kind the set of its sources (R168) -/
  events : Vector (BitVec 18) 9
  /-- event enables (R168) -/
  enables : BitVec 16
  /-- the alternation turn is RECORD (R170) -/
  turnRecord : Bool
  resetCause : ResetCause
  /-- fault records (R175) -/
  faults : Vector FaultRecord 18
  deriving DecidableEq, Repr

/-- Why the part stops with a fault.
No command of the spec stops the part: every fault of the spec is recorded and the part goes on (R176). -/
inductive Fault where
  /-- raised by no command; it stands so that the type has a name to print (safe: nothing answers it) -/
  | none
  deriving DecidableEq, Repr

/-- Why a command is refused. -/
inductive Refusal where
  /-- raised by exec's arm for a command that has no meaning yet; no arm does so now (safe) -/
  | notModelled (mnemonic : String)
  deriving DecidableEq, Repr

/-! ### After power-on reset -/

/-- A lane port after power-on reset (R22); `line` is taken from the line (log 4). -/
def Port.reset (line : LinkState) : Port where
  line := line
  rx := []
  lastIn := none
  queue := []
  hpBarrier := none
  hpShow := none
  hpSweep := none
  hpReread := none
  hpWake := false
  outSeq := 0
  tx := none
  signWait := none
  signTimer := none
  collision := false
  lastBarrierSeq := none
  reported := none

/-- A lane after power-on reset (R44). -/
def Lcu.reset : Lcu where
  mode := .closed
  target := none
  ready := 0
  holds := 0
  pendingDir := false
  audit := 0
  barrier := .down
  profile := 0
  t0 := none
  t1 := none
  t2 := none
  t3 := none

/-- A lane's sweep state after power-on reset (R129). -/
def Sweep.reset : Sweep where
  phase := .idle
  next := 0
  last := none
  lastEnd := none
  info := none

/-- A lane with all that is kept for it after power-on reset. -/
def Lane.reset (line : LinkState) : Lane where
  port := Port.reset line
  lcu := Lcu.reset
  sweep := Sweep.reset
  dirRef := none
  dirAcked := false

/-- The default profile (02, section 2.3): LOOP, PLATE, CARD, CODE, SIGN and BARRIER required. -/
def Profile.default : Profile where
  required := 0b11001111#8
  warmup := 300
  readWindow := 80
  checkWindow := 300
  barrierWindow := 200
  signAck := 10
  reread := true
  plateThreshold := 80
  codeThreshold := 80
  audit := 0
  rules := 0
  panels := 0b111111#8

/-- The default damage rule (R120): it matches no finding. -/
def Rule.default : Rule where
  enabled := false
  a := { panels := 0b111111#8, defects := 0b111111#8, measure := .severity, condition := .gt, value := 15 }
  b := none
  combine := .either
  tolerance := 0
  action := .minor

/-- The default class of each writable reason, in the order of the reason codes (R55). -/
def defaultPolicy : Vector PolicyClass 19 :=
  #v[.reject, .reject, .refer, .refer, .refer, .refer, .refer, .refer, .refer, .note, .reject, .refer,
     .refer, .refer, .refer, .refer, .note, .refer, .refer]

/-- The wait text after power-on reset: PLEASE WAIT (R134). -/
def pleaseWait : Text :=
  [0x50, 0x4C, 0x45, 0x41, 0x53, 0x45, 0x20, 0x57, 0x41, 0x49, 0x54]

/-- A management link after power-on reset (R161, R174); its state is taken from the line (log 4). -/
def MgmtLink.reset (state : LinkState) : MgmtLink where
  state := state
  rx := []
  queue := []
  reply := none
  tx := none

/-- A fault record after power-on reset (R175): a lane port has RX_OVERFLOW and SIGN_TIMEOUT at LANE severity. -/
def FaultRecord.reset (lanePort : Bool) : FaultRecord where
  status := 0
  mask := 0
  severity := if lanePort then 0b010001000#16 else 0
  pointer := none
  log := []
  stale := false

/-- The fault records after power-on reset (R175). -/
def faultsReset : Vector FaultRecord 18 :=
  Vector.replicate 16 (FaultRecord.reset true) ++ Vector.replicate 2 (FaultRecord.reset false)

/-- The part after a reset with this cause, its lines as given, and the commands that wait. -/
def State.resetWith (cause : ResetCause) (pending : List Instr) (lanes : Vector Lane 16) (auth term : LinkState) : State where
  pending := pending
  lanes := lanes
  profiles := Vector.replicate 8 Profile.default
  visits := Vector.replicate 24 none
  visitCounter := 0
  parked := []
  bayCount := 4
  bayWait := []
  closing := []
  policy := defaultPolicy
  bookings := []
  windows := Vector.replicate 64 none
  clock := none
  earlySlack := 30
  lateSlack := 15
  closures := []
  recency := []
  rules := Vector.replicate 16 Rule.default
  directions := Vector.replicate 64 none
  messages := (Vector.replicate 128 []).set 0 pleaseWait
  trail := []
  serial := 0
  frozen := false
  cursor := none
  holdList := []
  authWord := 0
  authMask := 0
  termWord := 0
  termMask := 0
  slots := Vector.replicate 8 (List.replicate 32 0)
  auth := MgmtLink.reset auth
  attention := false
  term := MgmtLink.reset term
  records := []
  recordTag := 0
  events := Vector.replicate 9 0
  enables := 0b111111111#16
  turnRecord := false
  resetCause := cause
  faults := faultsReset

/-- The part right after power-on reset, every line UP (log 4), with no command waiting. -/
def State.reset : State :=
  State.resetWith .powerOn [] (Vector.replicate 16 (Lane.reset .up)) .up .up

end Sys2Proof.Machine
end

