-- ==== Sys2Proof/Machine/Ops.lean ====
section
/-! DEFINITION. The named operations over the tables, the lanes and the visit records, which every meaning goes through. -/

namespace Sys2Proof.Machine

/-! ### Tables of many places -/

/-- The entry at an index, if the place is occupied. -/
def Table.lookup {α : Type} : Table α → Nat → Option α
  | [], _ => none
  | (j, x) :: t, i => if i = j then some x else Table.lookup t i

/-- The table with the place `i` holding `x`. -/
def Table.put {α : Type} : Table α → Nat → α → Table α
  | [], i, x => [(i, x)]
  | (j, y) :: t, i, x => if i < j then (i, x) :: (j, y) :: t else if i = j then (i, x) :: t else (j, y) :: Table.put t i x

/-- The table with the place `i` empty. -/
def Table.remove {α : Type} : Table α → Nat → Table α
  | [], _ => []
  | (j, y) :: t, i => if i = j then t else (j, y) :: Table.remove t i

/-- The table with the entry at `i`, if any, changed by `f`. -/
def Table.modify {α : Type} (t : Table α) (i : Nat) (f : α → α) : Table α :=
  t.map fun p => if p.1 = i then (p.1, f p.2) else p

/-- The lowest empty index from `n` on, for a table whose indices rise. -/
def Table.firstFreeFrom {α : Type} (n : Nat) : Table α → Nat
  | [] => n
  | (j, _) :: t => if j = n then Table.firstFreeFrom (n + 1) t else n

/-- The lowest-index empty place of a table. -/
def Table.firstFree {α : Type} (t : Table α) : Nat := Table.firstFreeFrom 0 t

/-! ### Lanes -/

/-- The lane's state. -/
def State.lane (s : State) (l : LaneId) : Lane := s.lanes.get l

/-- The state with the lane's state replaced. -/
def State.setLane (s : State) (l : LaneId) (x : Lane) : State := { s with lanes := s.lanes.set l x }

/-- The state with the lane's state changed by `f`. -/
def State.modLane (s : State) (l : LaneId) (f : Lane → Lane) : State := s.setLane l (f (s.lane l))

/-- The state with the lane's port changed by `f`. -/
def State.modPort (s : State) (l : LaneId) (f : Port → Port) : State :=
  s.modLane l fun x => { x with port := f x.port }

/-- The state with the lane's control unit changed by `f`. -/
def State.modLcu (s : State) (l : LaneId) (f : Lcu → Lcu) : State :=
  s.modLane l fun x => { x with lcu := f x.lcu }

/-- The state with the lane's sweep state changed by `f`. -/
def State.modSweep (s : State) (l : LaneId) (f : Sweep → Sweep) : State :=
  s.modLane l fun x => { x with sweep := f x.sweep }

/-- The profile the lane is assigned (R32). -/
def State.profileOf (s : State) (l : LaneId) : Profile := s.profiles.get (s.lane l).lcu.profile

/-- The lane is held: its hold cause set is nonempty (02, section 2.1). -/
def Lcu.isHeld (u : Lcu) : Bool := u.holds != 0

/-- The lane is held. -/
def State.held (s : State) (l : LaneId) : Bool := (s.lane l).lcu.isHeld

/-- The lane is open: OPEN_IN or OPEN_OUT (02, section 2.1). -/
def modeIsOpen : LaneMode → Bool
  | .openIn | .openOut => true
  | _ => false

/-- A hold cause is added only in OPEN_IN, OPEN_OUT or DRAINING (R33a). -/
def modeHoldable : LaneMode → Bool
  | .openIn | .openOut | .draining => true
  | _ => false

/-- The port of a lane. -/
def lanePort (l : LaneId) : PortId := ⟨l.val, by omega⟩

/-- Port 16, the terminal link. -/
def terminalPort : PortId := 16

/-- Port 17, the authority link. -/
def authorityPort : PortId := 17

/-- All lanes in ascending order. -/
def allLanes : List LaneId := List.finRange 16

/-! ### Visit records -/

/-- The visit record's open visit, if it is not FREE. -/
def State.visit (s : State) (v : VisitIx) : Option Visit := s.visits.get v

/-- The state with the visit record replaced. -/
def State.setVisit (s : State) (v : VisitIx) (x : Option Visit) : State := { s with visits := s.visits.set v x }

/-- The state with the open visit of the record changed by `f`. -/
def State.modVisit (s : State) (v : VisitIx) (f : Visit → Visit) : State := s.setVisit v ((s.visit v).map f)

/-- All records in ascending Visit Table index. -/
def allVisits : List VisitIx := List.finRange 24

/-- The lane's bound visit, with its record (R45). -/
def State.bound (s : State) (l : LaneId) : Option (VisitIx × Visit) :=
  allVisits.findSome? fun v =>
    match s.visit v with
    | some x => if x.lane = some l then some (v, x) else none
    | none => none

/-- The number of the lane's bound visit, if it has one. -/
def State.boundNumber (s : State) (l : LaneId) : Option Nat := (s.bound l).map fun p => p.2.number

/-- The open visit with a number, with its record. -/
def State.visitNumbered (s : State) (n : Nat) : Option (VisitIx × Visit) :=
  allVisits.findSome? fun v =>
    match s.visit v with
    | some x => if x.number = n then some (v, x) else none
    | none => none

/-- The lowest-index FREE record (R46). -/
def State.freeRecord (s : State) : Option VisitIx := allVisits.find? fun v => (s.visit v).isNone

/-- The reason set has the reason. -/
def Visit.hasReason (x : Visit) (r : Reason) : Bool := hasBit x.reasons r.toCode

/-- The visit with the reason added to its reason set. -/
def Visit.addReason (x : Visit) (r : Reason) : Visit := { x with reasons := addBit x.reasons r.toCode }

/-- The carried entry at a position. -/
def Visit.entryAt (x : Visit) (p : Position) : Option Carried := x.carried.find? fun e => e.position = p

/-- The visit with the carried entry at a position changed by `f`. -/
def Visit.modEntry (x : Visit) (p : Position) (f : Carried → Carried) : Visit :=
  { x with carried := x.carried.map fun e => if e.position = p then f e else e }

/-- The state with a reason added to a visit. -/
def State.addReason (s : State) (v : VisitIx) (r : Reason) : State := s.modVisit v fun x => x.addReason r

/-- The state with a carried entry of a visit changed by `f`. -/
def State.modEntry (s : State) (v : VisitIx) (p : Position) (f : Carried → Carried) : State :=
  s.modVisit v fun x => x.modEntry p f

/-- The positions in their order SINGLE, FRONT, REAR. -/
def allPositions : List Position := [.single, .front, .rear]

/-- The Booking Table indices a visit lists: carried entries in position order, then pick bookings (R70, R90). -/
def Visit.listed (x : Visit) : List Nat := x.carried.filterMap (·.booking) ++ x.picks

/-! ### Windows, messages and the clock -/

/-- The window at an index, if it is loaded. -/
def State.window (s : State) (i : Nat) : Option Window := (s.windows[i]?).join

/-- The state with the window at an index replaced. -/
def State.setWindow (s : State) (i : Nat) (w : Option Window) : State :=
  { s with windows := s.windows.setIfInBounds i w }

/-- The state with the used count of a loaded window changed by `f` (R76). -/
def State.modUsed (s : State) (i : Nat) (f : Nat → Nat) : State :=
  s.setWindow i ((s.window i).map fun w => { w with used := f w.used })

/-- The minute a stamp takes: absent while the clock is UNSET (04, section 4.3). -/
def State.minute (s : State) : Option Nat := s.clock.map (·.minute)

end Sys2Proof.Machine
end

