-- ==== Sys2Proof/Machine/Operands.lean ====
section
/-! DEFINITION. The checks of request operands: ranges and forms whose failure is answered BAD_VALUE (R3, R183). -/

namespace Sys2Proof.Machine

/-- A number from `lo` to `hi`. -/
def inRange (lo hi n : Nat) : Bool := lo ≤ n && n ≤ hi

/-- A set of the first `k` members only (R183). -/
def setOk {n : Nat} (k : Nat) (m : BitVec n) : Bool := m.toNat < 2 ^ k

/-- A nonempty set of the first `k` members. -/
def setNonempty {n : Nat} (k : Nat) (m : BitVec n) : Bool := setOk k m && m != 0

/-- Every field of a profile is in its range (02, section 2.3). -/
def profileOk (p : Profile) : Bool :=
  inRange 1 3000 p.warmup && inRange 1 600 p.readWindow && inRange 1 1200 p.checkWindow && inRange 1 1200 p.barrierWindow
    && inRange 1 50 p.signAck && inRange 0 100 p.plateThreshold && inRange 0 100 p.codeThreshold && inRange 0 255 p.audit
    && setOk 6 p.panels

/-- The fields of a matcher name values in their ranges, and its sets are nonempty (R120). -/
def matcherOk (m : Matcher) : Bool :=
  setNonempty 6 m.panels && setNonempty 6 m.defects
    && (match m.measure with | .severity => inRange 0 15 m.value | .extent => inRange 0 1023 m.value)

/-- The fields of a rule are in their ranges, and a rule without matcher B has the combine mode EITHER (R120). -/
def ruleOk (r : Rule) : Bool :=
  matcherOk r.a && (match r.b with | some m => matcherOk m | none => r.combine == .either) && inRange 0 63 r.tolerance

/-- The fields of a direction entry are in their ranges (R131, R132). -/
def directionOk (d : Direction) : Bool :=
  inRange 0 127 d.message && (match d.key with | some k => inRange 0 254 k | none => true)

/-- An optional field is absent or well formed. -/
def optOk {α : Type} (ok : α → Bool) : Option α → Bool
  | none => true
  | some x => ok x

/-- The fields LOAD_BOOKING carries are in their ranges and forms (R72, condition 1). -/
def bookingOk (f : BookingLoad) : Bool :=
  inRange 0 4294967295 f.ref && codeValid f.code && optOk cardOk f.card && optOk plateOk f.plate && inRange 0 63 f.window
    && inRange 0 254 f.yard

/-- An expected seal list: 1 to 3 seal numbers, all different (R98, condition 1). -/
def sealsOk (ts : List Text) : Bool :=
  inRange 1 3 ts.length && ts.all sealOk && decide ts.Nodup

/-- The items of a message: at most 40, each a permitted character or a mark (R134). -/
def itemsOk (t : Text) : Bool := t.length ≤ 40 && t.all fun b => isTextChar b || b == 0x01#8 || b == 0x02#8

/-- The lane a request names, if its number is in range. -/
def laneOf (n : Nat) : Option LaneId := if h : n < 16 then some ⟨n, h⟩ else none

/-- The visit number a request names, if it is in range (03, section 3.9). -/
def visitNumberOk (n : Nat) : Bool := inRange 1 65535 n

/-- The Visit Table index a request names, if it is in range (R65). -/
def visitIxOf (n : Nat) : Option VisitIx := if h : n < 24 then some ⟨n, h⟩ else none

/-- The port a request names, if its number is in range (10, section 10.5). -/
def portOf (n : Nat) : Option PortId := if h : n < 18 then some ⟨n, h⟩ else none

/-! ### Answers -/

/-- The answer of a block to a request: a status and the result fields that follow OK (R166). -/
abbrev Answer := Status × List Byte

/-- A request applied: OK with its result fields. -/
def applied (result : List Byte) (s : State) : Answer × State := ((.ok, result), s)

/-- A request refused: its status, no field, and the state as it was (R166). -/
def refusedWith (st : Status) (s : State) : Answer × State := ((st, []), s)

/-- A request that names a lane: BAD_VALUE for a number above 15. -/
def withLane (n : Nat) (k : LaneId → State → Answer × State) (s : State) : Answer × State :=
  match laneOf n with
  | some l => k l s
  | none => refusedWith .badValue s

/-- A request that names a port: BAD_VALUE for a number above 17. -/
def withPort (n : Nat) (k : PortId → State → Answer × State) (s : State) : Answer × State :=
  match portOf n with
  | some p => k p s
  | none => refusedWith .badValue s

/-- A request that names an open visit by its number: BAD_VALUE out of range, NOT_FOUND where no open visit has it (03, section 3.9). -/
def withVisit (n : Nat) (k : VisitIx → Visit → State → Answer × State) (s : State) : Answer × State :=
  if visitNumberOk n then
    match s.visitNumbered n with
    | some (v, x) => k v x s
    | none => refusedWith .notFound s
  else refusedWith .badValue s

end Sys2Proof.Machine
end

