-- ==== Sys2Proof/Machine/Flags.lean ====
section
/-! DEFINITION. The flags of the part: event flags, notice words, and the fault records' sets, pointer and log. -/

namespace Sys2Proof.Machine

/-! ### Event flags (R168) -/

/-- The place of an event kind's flags. -/
def eventIx (k : EventKind) : Fin 9 :=
  match k with
  | .laneMode => 0 | .laneHeld => 1 | .parked => 2 | .closureMiss => 3 | .bayWait => 4 | .fault => 5 | .authLink => 6
  | .notice => 7 | .holdChange => 8

/-- The kind is enabled. -/
def State.enabled (s : State) (k : EventKind) : Bool := hasBit s.enables k.toCode

/-- The event flag of a kind and source. -/
def State.eventFlag (s : State) (k : EventKind) (src : PortId) : Bool := hasBit (s.events.get (eventIx k)) src.val

/-- A raise: it sets the flag of an enabled kind and leaves that of a disabled kind clear (R168). -/
def raiseEvent (k : EventKind) (src : PortId) (s : State) : State :=
  if s.enabled k then
    { s with events := s.events.set (eventIx k) (addBit (s.events.get (eventIx k)) src.val) }
  else s

/-- The flag of a kind and source cleared, as its EVENT frame's transmission begins (R168). -/
def clearEvent (k : EventKind) (src : PortId) (s : State) : State :=
  { s with events := s.events.set (eventIx k) (delBit (s.events.get (eventIx k)) src.val) }

/-- The event kinds in the order the transmitter takes them (R170). -/
def allKinds : List EventKind :=
  [.laneMode, .laneHeld, .parked, .closureMiss, .bayWait, .fault, .authLink, .notice, .holdChange]

/-- All sources in ascending order. -/
def allPorts : List PortId := List.finRange 18

/-- The first set flag in kind order, and within a kind in ascending source (R170). -/
def State.firstEvent (s : State) : Option (EventKind × PortId) :=
  allKinds.findSome? fun k => (allPorts.find? fun p => s.eventFlag k p).map fun p => (k, p)

/-- SET_EVENT_ENABLE's effect on the flags: those of every kind not in the set are cleared (R168). -/
def keepEnabled (kinds : BitVec 16) (events : Vector (BitVec 18) 9) : Vector (BitVec 18) 9 :=
  Vector.ofFn fun i => if hasBit kinds i.val then events.get i else 0

/-! ### Notice words (R156, R157) -/

/-- The presenting flags of a word under its mask (R156). -/
def presenting (word mask : BitVec 16) : BitVec 16 := word &&& ~~~mask

/-- The number of members of a set. -/
def countBits {n : Nat} (m : BitVec n) : Nat := ((List.range n).filter (hasBit m)).length

/-- The authority word and mask take new values; attention-pending is set when the presenting count leaves 0 with the link UP (R157). -/
def setAuthNotice (word mask : BitVec 16) (s : State) : State :=
  { s with
    authWord := word
    authMask := mask
    attention := s.attention ||
      (presenting s.authWord s.authMask == 0 && presenting word mask != 0 && s.auth.state == .up) }

/-- The terminal word and mask take new values; NOTICE is raised when the presenting count leaves 0 (R157). -/
def setTermNotice (word mask : BitVec 16) (s : State) : State :=
  let t := { s with termWord := word, termMask := mask }
  if presenting s.termWord s.termMask = 0 ∧ presenting word mask ≠ 0 then raiseEvent .notice 0 t else t

/-- The part raises a flag of the authority word: 0 HELD_ARRIVED, 1 HELD_PASSED, 2 HELD_RESOLVED (08, section 8.4). -/
def raiseAuthority (flag : Nat) (s : State) : State := setAuthNotice (addBit s.authWord flag) s.authMask s

/-- HELD_ARRIVED, flag 0 of the authority word. -/
def heldArrived : Nat := 0
/-- HELD_PASSED, flag 1 of the authority word. -/
def heldPassed : Nat := 1
/-- HELD_RESOLVED, flag 2 of the authority word. -/
def heldResolved : Nat := 2

/-! ### Fault records (R176, R177) -/

/-- The state with a port's fault record changed by `f`. -/
def State.modFault (s : State) (p : PortId) (f : FaultRecord → FaultRecord) : State :=
  { s with faults := s.faults.set p (f (s.faults.get p)) }

/-- The kind joins the status set; with the pointer none, the pointer takes it and the log captures the frame (R176, R177). -/
def FaultRecord.note (k : FaultKind) (frame : List Byte) (r : FaultRecord) : FaultRecord :=
  if hasBit r.mask k.toCode then { r with status := addBit r.status k.toCode }
  else
    match r.pointer with
    | some _ => { r with status := addBit r.status k.toCode }
    | none =>
      { r with status := addBit r.status k.toCode, pointer := some k, log := frame.take Config.headerBytes, stale := false }

/-- What the FRU does in its own records with an occurrence of a kind for a port: the record, and FAULT raised where an
unmasked kind was not in the status set (R176). The lane hold of R178 is `recordLane`. -/
def noteFault (p : PortId) (k : FaultKind) (frame : List Byte) (s : State) : State :=
  let r := s.faults.get p
  let t := s.modFault p (FaultRecord.note k frame)
  if !hasBit r.mask k.toCode && !hasBit r.status k.toCode then raiseEvent .fault p t else t

/-- An occurrence on the lane's port holds its lane: unmasked and of LANE severity (R178). -/
def FaultRecord.holdsLane (r : FaultRecord) (k : FaultKind) : Bool :=
  !hasBit r.mask k.toCode && hasBit r.severity k.toCode

/-- CLEAR_FAULTS' effect on a record: kinds leave the status set, and a pointer among them becomes none with the log stale (R179). -/
def FaultRecord.clear (kinds : BitVec 16) (r : FaultRecord) : FaultRecord :=
  let t := { r with status := r.status &&& ~~~kinds }
  match r.pointer with
  | some k => if hasBit kinds k.toCode then { t with pointer := none, stale := true } else t
  | none => t

/-- The kinds a port has: the nine of a lane port, the first four of a link port (11.4). -/
def portKinds (p : PortId) : BitVec 16 := if p.val < 16 then 0x1FF#16 else 0xF#16

end Sys2Proof.Machine
end

