-- ==== Sys2Proof/Machine/Outbound.lean ====
section
/-! DEFINITION. Outbound lane frames: producing them into the five holding places (R16, R17), and the lane transmitter (R18, R19). -/

namespace Sys2Proof.Machine

/-- The payload of a SHOW (11.2). -/
def Show.payload (w : Show) : List Byte := num 1 w.arrow.toCode ++ textBytes w.text

/-- A SHOW frame as sent with a sequence (11.2). -/
def Show.frame (w : Show) (seq : Byte) : LaneFrame := ⟨0x22, seq, w.payload⟩

/-- The frame of the SWEEP/STOP holding place as sent (11.2). -/
def SweepFrame.frame (w : SweepFrame) (seq : Byte) : LaneFrame :=
  match w with
  | .sweep n pos pan => ⟨0x24, seq, num 2 n.toNat ++ maskBytes pos ++ maskBytes pan⟩
  | .stop n => ⟨0x25, seq, num 2 n.toNat⟩

/-- A BARRIER frame as sent (11.2). -/
def barrierFrame (c : BarrierCmd) (seq : Byte) : LaneFrame := ⟨0x23, seq, num 1 c.toCode⟩

/-- A REREAD frame as sent (11.2). -/
def rereadFrame (units : BitVec 8) (seq : Byte) : LaneFrame := ⟨0x26, seq, maskBytes units⟩

/-- A WAKE frame as sent (11.2). -/
def wakeFrame (seq : Byte) : LaneFrame := ⟨0x21, seq, []⟩

/-! ### Producing -/

/-- A SHOW is produced: it replaces a held one, which sets the sign-collision flag (R17, R21), and ends the lane's
acknowledged direction (R140). -/
def produceShow (l : LaneId) (w : Show) (s : State) : State :=
  s.modLane l fun x =>
    { x with
      port := { x.port with hpShow := some w, collision := x.port.collision || x.port.hpShow.isSome }
      dirAcked := false }

/-- The blank SHOW: arrow NONE and an empty text (R16). -/
def blankShow : Show := { arrow := .noArrow, text := [], mark := none }

/-- A BARRIER RAISE is produced: the barrier state becomes UP and T1 starts afresh with the barrier window (R34). -/
def raiseBarrier (l : LaneId) (s : State) : State :=
  s.modLane l fun x =>
    { x with
      port := { x.port with hpBarrier := some .raise }
      lcu := { x.lcu with barrier := .up, t1 := some (s.profileOf l).barrierWindow } }

/-- A BARRIER LOWER is produced: the barrier state becomes DOWN and T1 stops (R34). -/
def lowerBarrier (l : LaneId) (s : State) : State :=
  s.modLane l fun x =>
    { x with
      port := { x.port with hpBarrier := some .lower }
      lcu := { x.lcu with barrier := .down, t1 := none } }

/-- A SWEEP or STOP is produced: it replaces the held one (R17). -/
def produceSweep (l : LaneId) (w : SweepFrame) (s : State) : State :=
  s.modPort l fun p => { p with hpSweep := some w }

/-- A REREAD is produced: its unit set joins a held one's (R17). -/
def produceReread (l : LaneId) (units : BitVec 8) (s : State) : State :=
  s.modPort l fun p => { p with hpReread := some (units ||| p.hpReread.getD 0) }

/-- A WAKE is produced: a held WAKE stands (R17). -/
def produceWake (l : LaneId) (s : State) : State :=
  s.modPort l fun p => { p with hpWake := true }

/-! ### Sending -/

/-- The transmitter sends a frame: it takes the next outbound sequence (R18). -/
def Port.send (f : LaneFrame) (p : Port) : Port := { p with tx := some f, outSeq := p.outSeq + 1 }

/-- The lane transmitter, when it is free and the line UP, takes the first eligible holding place in the order BARRIER, SHOW,
SWEEP/STOP, REREAD, WAKE; the SHOW place is passed over while a sign wait is present (R18). A SHOW sent starts the sign wait
and loads the sign-ACK timer (R19). -/
def Port.transmit (signAck : Nat) (p : Port) : Port :=
  if p.line = .up ∧ p.tx = none then
    match p.hpBarrier with
    | some c => { p.send (barrierFrame c p.outSeq) with hpBarrier := none, lastBarrierSeq := some p.outSeq }
    | none =>
      match p.hpShow, p.signWait with
      | some w, none =>
        { p.send (w.frame p.outSeq) with hpShow := none, signWait := some ⟨p.outSeq, w⟩, signTimer := some signAck }
      | _, _ =>
        match p.hpSweep with
        | some w => { p.send (w.frame p.outSeq) with hpSweep := none }
        | none =>
          match p.hpReread with
          | some u => { p.send (rereadFrame u p.outSeq) with hpReread := none }
          | none => if p.hpWake then { p.send (wakeFrame p.outSeq) with hpWake := false } else p
  else p

/-- The lane's transmitter chooses, with the sign-ACK timeout of the lane's profile as it stands (R18, R19). -/
def Lane.transmit (profiles : Vector Profile 8) (x : Lane) : Lane :=
  { x with port := x.port.transmit (profiles.get x.lcu.profile).signAck }

/-- Every lane transmitter that is free chooses; made at the end of each command, after all it produced, and within RESUME_LANE after
the lifting and after each application, and within a redirect after its LOWER (log 6). -/
def transmitLanes (s : State) : State := { s with lanes := s.lanes.map (Lane.transmit s.profiles) }

end Sys2Proof.Machine
end

