-- ==== Sys2Proof/Machine/Directions.lean ====
section
/-! DEFINITION. The Direction Unit (chapter 7): class and key, lookup, rendering, wait text, the Decision Trail, and its requests. -/

namespace Sys2Proof.Machine

/-! ### Class, key and lookup -/

/-- The direction class of a verdict and work direction (R130). -/
def dirClassOf (v : Verdict) (d : Dir) : DirClass :=
  match v, d with
  | .admitted, .inGate => .admitIn
  | .admitted, .outGate => .admitOut
  | .refer, _ => .refer
  | .reject, _ => .reject

/-- The yard block of a booking (R130). -/
def State.yardOf (s : State) (i : Nat) : Option Nat := (Table.lookup s.bookings i).map (·.yard)

/-- The booking whose yard block is the key of ADMIT_IN: the first carried entry's that holds one, else the first pick booking (R130). -/
def Visit.keyBooking (x : Visit) : Option Nat := x.listed.head?

/-- The route key of a visit's direction (R130). -/
def State.routeKey (s : State) (x : Visit) : DirClass → Option Nat
  | .admitIn => x.keyBooking.bind s.yardOf
  | .admitOut => some 0
  | .refer => x.bay
  | .reject => some 0

/-- The entry of a class and exactly this key (absent for ANY). -/
def findDirection (ds : List (Option Direction)) (c : DirClass) (k : Option Nat) : Option Direction :=
  ds.findSome? fun d =>
    match d with
    | some e => if e.cls = c ∧ e.key = k then some e else none
    | none => none

/-- The lookup: the class and the key if present, else the class with ANY (R133). -/
def State.lookupDirection (s : State) (c : DirClass) (k : Option Nat) : Option Direction :=
  match k with
  | some n => (findDirection s.directions.toList c (some n)).or (findDirection s.directions.toList c none)
  | none => findDirection s.directions.toList c none

/-! ### Rendering -/

/-- A number in decimal without leading zeros (R135). -/
def decimal (n : Nat) : Text := (Nat.toDigits 10 n).map fun c => BitVec.ofNat 8 c.toNat

/-- What an item of a message becomes: a mark its number or nothing, a character itself (R135). -/
def renderItem (key visit : Option Nat) (b : Byte) : Text :=
  if b = 0x01#8 then (key.map decimal).getD []
  else if b = 0x02#8 then (visit.map decimal).getD []
  else [b]

/-- A message rendered and cut to its first 40 characters (R135). -/
def renderItems (key visit : Option Nat) (items : Text) : Text :=
  (items.flatMap (renderItem key visit)).take Config.textMax

/-- The message at an index; an index above 127 names none. -/
def State.message (s : State) (i : Nat) : Text := (s.messages[i]?).getD []

/-- The wait-text SHOW of a lane: message 0 with no key, the bound visit's number, arrow NONE and no trail mark (R138). -/
def State.waitShow (s : State) (l : LaneId) : Show :=
  { arrow := .noArrow, text := renderItems none (s.boundNumber l) (s.message 0), mark := none }

/-- A wait-text SHOW is produced for the lane (R138). -/
def waitText (l : LaneId) (s : State) : State := produceShow l (s.waitShow l) s

/-- The SHOW of a visit's direction with its trail mark, undirected (blank) where the lookup finds no entry (R136, R137, R139). -/
def State.directionShow (s : State) (l : LaneId) (x : Visit) (v : Verdict) : Show :=
  let key := s.routeKey x (dirClassOf v x.dir)
  let mark := some ⟨x.number, (s.lane l).dirRef⟩
  match s.lookupDirection (dirClassOf v x.dir) key with
  | some e => { arrow := e.arrow, text := renderItems key (some x.number) (s.message e.message), mark }
  | none => { arrow := .noArrow, text := [], mark }

/-- A rendering of the visit's direction finds no entry (R137). -/
def State.isUndirected (s : State) (x : Visit) (v : Verdict) : Bool :=
  (s.lookupDirection (dirClassOf v x.dir) (s.routeKey x (dirClassOf v x.dir))).isNone

/-- The lane's pending-direction flag takes a value. -/
def setPendingFlag (l : LaneId) (b : Bool) (s : State) : State := s.modLcu l fun u => { u with pendingDir := b }

/-- The bound visit's direction is shown: rendered as it stands, its SHOW and a BARRIER RAISE produced, T1 started, the
pending-direction flag cleared, the undirected flag set where no entry was found (R38, R136, R137). -/
def showDirection (l : LaneId) (s : State) : State :=
  match s.bound l with
  | some (v, x) =>
    match x.verdict with
    | some vd =>
      let t := s.modVisit v fun y => { y with undirected := y.undirected || s.isUndirected x vd }
      setPendingFlag l false (raiseBarrier l (produceShow l (s.directionShow l x vd) t))
    | none => s
  | none => s

/-- The lane's direction is made pending: the flag is set and a wait-text SHOW produced (R38). -/
def makePending (l : LaneId) (s : State) : State := waitText l (setPendingFlag l true s)

/-! ### The Decision Trail -/

/-- The trail with an entry appended, the oldest removed when it holds 32 (R141). -/
def trailWith (e : TrailEntry) (t : List TrailEntry) : List TrailEntry :=
  (if t.length < Config.trailSize then t else t.drop 1) ++ [e]

/-- An entry for a decision about a visit is appended while the trail is thawed (R141, R142, R144). -/
def appendTrail (c : TrailCause) (vd : Verdict) (x : Visit) (s : State) : State :=
  if s.frozen then s
  else
    { s with
      trail := trailWith
        { serial := s.serial, visit := x.number, lane := x.grantLane, verdict := vd, reasons := x.reasons, cause := c,
          minute := s.minute, shown := false } s.trail
      serial := s.serial + 1 }

/-- An entry for a decision about a lane's bound visit: the lane's direction entry reference takes its serial, or becomes
absent while the trail is frozen (R139). -/
def appendBound (c : TrailCause) (vd : Verdict) (l : LaneId) (x : Visit) (s : State) : State :=
  (appendTrail c vd x s).modLane l fun y => { y with dirRef := if s.frozen then none else some s.serial }

/-- The entry with a serial has its shown flag set (R140). -/
def markShown (n : BitVec 16) (t : List TrailEntry) : List TrailEntry :=
  t.map fun e => if e.serial = n then { e with shown := true } else e

/-- The sign acknowledged a SHOW with a trail mark: the shown flag of the entry it names, and the acknowledged direction
where the mark is the bound visit's and the SHOW place is empty (R140). -/
def handMark (l : LaneId) (m : TrailMark) (s : State) : State :=
  let t := match m.serial with
    | some n => { s with trail := markShown n s.trail }
    | none => s
  if s.boundNumber l = some m.visit ∧ (s.lane l).port.hpShow = none then
    t.modLane l fun y => { y with dirAcked := true }
  else t

/-! ### Requests of the Direction Unit -/

/-- WRITE_DIRECTION (R132). -/
def reqWriteDirection (i : Nat) (e : Direction) (s : State) : Answer × State :=
  if h : i < 64 ∧ directionOk e then
    if (List.finRange 64).any fun j =>
        j.val ≠ i && (match s.directions.get j with | some d => d.cls == e.cls && d.key == e.key | none => false)
    then refusedWith .duplicate s
    else applied [] { s with directions := s.directions.set i (some e) h.1 }
  else refusedWith .badValue s

/-- CLEAR_DIRECTION (R132). -/
def reqClearDirection (i : Nat) (s : State) : Answer × State :=
  if h : i < 64 then applied [] { s with directions := s.directions.set i none h } else refusedWith .badValue s

/-- READ_DIRECTION (R132): the entry, or the mark *empty*. -/
def reqReadDirection (i : Nat) (s : State) : Answer × State :=
  if h : i < 64 then applied (optBytes Direction.encode (s.directions.get ⟨i, h⟩)) s else refusedWith .badValue s

/-- WRITE_MESSAGE (R134). -/
def reqWriteMessage (i : Nat) (items : Text) (s : State) : Answer × State :=
  if h : i < 128 ∧ itemsOk items then applied [] { s with messages := s.messages.set i items h.1 }
  else refusedWith .badValue s

/-- READ_MESSAGE (R134). -/
def reqReadMessage (i : Nat) (s : State) : Answer × State :=
  if i < 128 then applied (textBytes (s.message i)) s else refusedWith .badValue s

/-- TRAIL_FREEZE (R144): the frozen flag set, the cursor at the oldest entry; the reply gives the number of entries. -/
def reqTrailFreeze (s : State) : Answer × State :=
  applied (num 1 s.trail.length) { s with frozen := true, cursor := if s.trail.isEmpty then none else some 0 }

/-- A trail entry's fields as bytes, in the order of R141. -/
def TrailEntry.encode (e : TrailEntry) : List Byte :=
  num 2 e.serial.toNat ++ num 2 e.visit ++ num 1 e.lane.val ++ num 1 e.verdict.toCode ++ maskBytes e.reasons
    ++ num 1 e.cause.toCode ++ optBytes (num 3) e.minute ++ flagByte e.shown

/-- TRAIL_READ (R145): the entry at the cursor, its position and the number of entries; the cursor moves on, from the newest to the oldest. -/
def reqTrailRead (s : State) : Answer × State :=
  if s.frozen then
    match s.cursor with
    | some c =>
      match s.trail[c]? with
      | some e =>
        applied (e.encode ++ num 1 c ++ num 1 s.trail.length)
          { s with cursor := some (if c + 1 < s.trail.length then c + 1 else 0) }
      | none => refusedWith .notFound s
    | none => refusedWith .notFound s
  else refusedWith .state s

/-- TRAIL_THAW (R144). -/
def reqTrailThaw (s : State) : Answer × State := applied [] { s with frozen := false, cursor := none }

end Sys2Proof.Machine
end

