-- ==== Sys2Proof/Machine/Holds.lean ====
section
/-! DEFINITION. Lane holds (R33a, R37, R178), faults recorded on a lane, entry into CLOSED (R28), warm-up completion (R24) and the
audit step (R41). -/

namespace Sys2Proof.Machine

/-! ### Entering hold -/

/-- On entering hold the sign tells the driver to wait, unless the driver has an acknowledged direction; a direction not
acknowledged is taken back: pending, with T1 stopped and the barrier state kept (R37). -/
def signAtHold (l : LaneId) (s : State) : State :=
  match s.bound l with
  | some (_, x) =>
    if x.state = .directed then
      if (s.lane l).dirAcked && !(s.lane l).lcu.pendingDir then s
      else (waitText l s).modLcu l fun u => { u with pendingDir := true, t1 := none }
    else waitText l s
  | none => waitText l s

/-- The lane leaves the Parked Arrival Queue if it is in it (R47). -/
def leaveParked (l : LaneId) (s : State) : State := { s with parked := s.parked.filter fun m => m ≠ l }

/-- The lane enters hold: LANE_HELD, the sign, and out of the Parked Arrival Queue; T0, T1 and the sign-ACK timer pause by the
hold itself (R33a). -/
def enterHold (l : LaneId) (s : State) : State := leaveParked l (signAtHold l (raiseEvent .laneHeld (lanePort l) s))

/-- A hold cause put into the lane's set and into the bound visit's hold causes seen (R33a). -/
def putCause (l : LaneId) (c : HoldCause) (s : State) : State :=
  let t := s.modLcu l fun u => { u with holds := addBit u.holds c.toCode }
  match s.bound l with
  | some (v, _) => t.modVisit v fun x => { x with holdsSeen := addBit x.holdsSeen c.toCode }
  | none => t

/-- A hold cause is added to the lane: only in OPEN_IN, OPEN_OUT or DRAINING, with no effect where it already stands, and
entering hold where the set was empty (R33a). -/
def addCause (l : LaneId) (c : HoldCause) (s : State) : State :=
  let u := (s.lane l).lcu
  if modeHoldable u.mode && !hasBit u.holds c.toCode then
    if u.isHeld then putCause l c s else enterHold l (putCause l c s)
  else s

/-! ### Faults -/

/-- An occurrence of a kind on a lane port: recorded, and the lane held with FAULT where the kind is unmasked and of LANE
severity (R176, R178). -/
def recordLane (l : LaneId) (k : FaultKind) (frame : List Byte) (s : State) : State :=
  if (s.faults.get (lanePort l)).holdsLane k then addCause l .fault (noteFault (lanePort l) k frame s)
  else noteFault (lanePort l) k frame s

/-- The port of a management link. -/
def linkPort : Link → PortId
  | .terminal => terminalPort
  | .authority => authorityPort

/-- An occurrence of a kind on a link port: it holds nothing (R178). -/
def recordLink (k : Link) (kind : FaultKind) (frame : List Byte) (s : State) : State := noteFault (linkPort k) kind frame s

/-! ### Entering CLOSED -/

/-- The lane's control unit as it enters CLOSED (R28): T0, T1 and T3 stopped, the holds, the pending flag and the target gone. -/
def Lcu.close (u : Lcu) : Lcu :=
  { u with mode := .closed, target := none, holds := 0, pendingDir := false, t0 := none, t1 := none, t3 := none }

/-- The lane enters CLOSED (R28): out of the Parked Arrival Queue, queue and unsent WAKE gone, blank SHOW and LOWER produced,
holds, pending flag, T0, T1, T3 and target gone, LANE_MODE raised; its direction entry reference becomes absent (R139). -/
def enterClosed (l : LaneId) (s : State) : State :=
  let t := (leaveParked l s).modPort l fun p => { p with queue := [], hpWake := false }
  let t := lowerBarrier l (produceShow l blankShow t)
  let t := t.modLane l fun x => { x with lcu := x.lcu.close, dirRef := none }
  raiseEvent .laneMode (lanePort l) t

/-! ### Warm-up -/

/-- The completion test of a warming lane: with every required kind ready, T3 stops, the mode becomes the target, the audit
countdown is loaded and LANE_MODE raised (R24). -/
def warmTest (l : LaneId) (s : State) : State :=
  let u := (s.lane l).lcu
  let p := s.profileOf l
  match u.target with
  | some m =>
    if u.mode = .warming ∧ subMask p.required u.ready then
      raiseEvent .laneMode (lanePort l)
        (s.modLcu l fun w => { w with mode := m, target := none, t3 := none, audit := p.audit })
    else s
  | none => s

/-- A READY adds its unit kind to the ready set, in every mode; a kind not already in it makes the completion test (R24). -/
def addReady (l : LaneId) (k : UnitKind) (s : State) : State :=
  if hasBit (s.lane l).lcu.ready k.toCode then s
  else warmTest l (s.modLcu l fun u => { u with ready := addBit u.ready k.toCode })

/-! ### The audit -/

/-- The audit step of an ADMIT: off at interval 0; else the countdown decreases, or at 0 the lane is held with AUDIT and the
countdown reloaded (R41). -/
def auditStep (l : LaneId) (s : State) : State :=
  let a := (s.profileOf l).audit
  if a = 0 then s
  else if (s.lane l).lcu.audit > 0 then s.modLcu l fun u => { u with audit := u.audit - 1 }
  else (addCause l .audit s).modLcu l fun u => { u with audit := a }

end Sys2Proof.Machine
end

