-- ==== Sys2Proof/Machine/Visits.lean ====
section
/-! DEFINITION. The Visit Engine's own operations (chapter 3): the grant and parking, referral bays, closing and the Gate
Transaction Record, the settling of bookings and pins, and the release of a lane. -/

namespace Sys2Proof.Machine

/-! ### Opening a visit (R46, R47) -/

/-- The number after `n`, wrapping from 65535 to 1 (R46). -/
def nextNumber (n : Nat) : Nat := if n ≥ 65535 then 1 else n + 1

/-- The counter advanced from `n` while the number reached is held by an open visit; 24 visits can hold 24 numbers (R46). -/
def State.freshNumber (s : State) : Nat → Nat → Nat
  | 0, n => nextNumber n
  | fuel + 1, n => if (s.visitNumbered (nextNumber n)).isSome then State.freshNumber s fuel (nextNumber n) else nextNumber n

/-- The visit opened by a grant: its starting values (R46, section 3.1). -/
def newVisit (s : State) (l : LaneId) (load : LoadClass) (number : Nat) : Visit where
  number := number
  state := .identifying
  lane := some l
  grantLane := l
  dir := if (s.lane l).lcu.mode = .openOut then .outGate else .inGate
  load := load
  arrival := s.minute
  plate := none
  card := none
  carried := []
  picks := []
  reasons := 0
  verdict := none
  bay := none
  lastBay := none
  barrierDown := false
  holdsSeen := (s.lane l).lcu.holds
  rereaded := false
  undirected := false
  t2Verdict := none
  t2Clear := none
  record := none

/-- The head leaves the lane's receive queue (R12). -/
def popHead (l : LaneId) (s : State) : State := s.modPort l fun p => { p with queue := p.queue.drop 1 }

/-- The grant of a record to the lane's head ARRIVE: the ARRIVE leaves the queue, the visit opens, T2 starts from 0 and T0 with
window kind READ (R46). -/
def grant (l : LaneId) (v : VisitIx) (load : LoadClass) (s : State) : State :=
  let n := s.freshNumber 24 s.visitCounter
  let t := (popHead l s).setVisit v (some (newVisit s l load n))
  ({ t with visitCounter := n }).modLcu l fun u =>
    { u with t2 := some 0, t0 := some ((s.profileOf l).readWindow, .read) }

/-- The head frame of the lane's receive queue with its contents. -/
def State.head (s : State) (l : LaneId) : Option (LaneFrame × InFrame) :=
  match (s.lane l).port.queue with
  | f :: _ =>
    match f.content with
    | .visit c => some (f, c)
    | _ => none
  | [] => none

/-- The lane parks: at the tail of the Parked Arrival Queue, with a wait-text SHOW and PARKED (R47). -/
def park (l : LaneId) (s : State) : State :=
  raiseEvent .parked (lanePort l) (waitText l { s with parked := s.parked ++ [l] })

/-- A record that became FREE goes at once to the oldest parked lane, whose ARRIVE is applied with the grant on it (R47). -/
def grantParked (v : VisitIx) (s : State) : State :=
  match s.parked with
  | l :: rest =>
    match s.head l with
    | some (_, .arrive load) => grant l v load { s with parked := rest }
    | _ => { s with parked := rest }
  | [] => s

/-! ### Referral bays (R58, R59) -/

/-- The visit that holds a bay (R58). -/
def State.bayHolder (s : State) (b : Nat) : Option Visit :=
  allVisits.findSome? fun v =>
    match s.visit v with
    | some x => if x.bay = some b then some x else none
    | none => none

/-- The lowest-numbered FREE bay (R58). -/
def State.freeBay (s : State) : Option Nat := (List.range s.bayCount).find? fun b => (s.bayHolder b).isNone

/-- The number of bays held (R58). -/
def State.baysHeld (s : State) : Nat := (allVisits.filter fun v => match s.visit v with | some x => x.bay.isSome | none => false).length

/-- A visit takes a bay: its number joins the bay and last bay fields (R58). -/
def takeBay (v : VisitIx) (b : Nat) (s : State) : State := s.modVisit v fun x => { x with bay := some b, lastBay := some b }

/-- The visit's state field takes a value. -/
def setVisitState (v : VisitIx) (st : VisitState) (s : State) : State := s.modVisit v fun x => { x with state := st }

/-- A visit joins the Bay Wait Queue: WAITING_BAY, a wait-text SHOW and BAY_WAIT for its lane (R59). -/
def joinBayWait (l : LaneId) (v : VisitIx) (s : State) : State :=
  raiseEvent .bayWait (lanePort l) (waitText l { setVisitState v .waitingBay s with bayWait := s.bayWait ++ [v] })

/-- A visit enters DIRECTED: its direction is shown, or on a held lane made pending (R57, R59). -/
def enterDirected (l : LaneId) (v : VisitIx) (s : State) : State :=
  let t := setVisitState v .directed s
  if s.held l then makePending l t else showDirection l t

/-- FREE bays go to waiting visits, lowest bay first to the oldest waiter (R59). -/
def grantBays : Nat → State → State
  | 0, s => s
  | fuel + 1, s =>
    match s.bayWait, s.freeBay with
    | v :: rest, some b =>
      let t := takeBay v b { s with bayWait := rest }
      match (s.visit v).bind (·.lane) with
      | some l => grantBays fuel (enterDirected l v t)
      | none => grantBays fuel t
    | _, _ => s

/-- Every FREE bay that a waiting visit can take is granted (R59). -/
def grantFreeBays (s : State) : State := grantBays s.bayWait.length s

/-- A bay claim for a bound visit: the lowest FREE bay, or none (R58). The state answers with whether it found one. -/
def claimBay (v : VisitIx) (s : State) : Bool × State :=
  match s.freeBay with
  | some b => (true, takeBay v b s)
  | none => (false, s)

/-- A visit's bay is released, if it holds one, and granted at once to a waiting visit (R58, R59). -/
def releaseBay (v : VisitIx) (s : State) : State :=
  match (s.visit v).bind (·.bay) with
  | some _ => grantFreeBays (s.modVisit v fun x => { x with bay := none })
  | none => s

/-- A visit leaves the Bay Wait Queue if it is in it (R59). -/
def leaveBayWait (v : VisitIx) (s : State) : State := { s with bayWait := s.bayWait.filter fun w => w ≠ v }

/-! ### Settling bookings and pins (R90, R91, R109) -/

/-- A HELD booking advanced by a visit of a work direction (R71). -/
def Booking.advance (d : Dir) (b : Booking) : Booking :=
  if b.state = .held then
    { b with state := (match d with | .inGate => .entered | .outGate => .closed), heldFrom := none, holder := none }
  else b

/-- A HELD booking restored to its held-from state (R71). -/
def Booking.restore (b : Booking) : Booking :=
  match b.state, b.heldFrom with
  | .held, some st => { b with state := st, heldFrom := none, holder := none }
  | _, _ => b

/-- Bookings changed one after another. -/
def modBookings (f : Booking → Booking) (ixs : List Nat) (s : State) : State :=
  { s with bookings := ixs.foldl (fun t i => Table.modify t i f) s.bookings }

/-- Every booking the visit lists is advanced (R90). -/
def advanceBookings (x : Visit) (s : State) : State := modBookings (Booking.advance x.dir) x.listed s

/-- Every booking the visit lists is restored (R91). -/
def restoreBookings (x : Visit) (s : State) : State := modBookings Booking.restore x.listed s

/-- A pin released: the pin count decreases by 1 (R96). -/
def ClosureEntry.unpin (e : ClosureEntry) : ClosureEntry := { e with pins := e.pins - 1 }

/-- Every pin the visit holds is released, one per carried entry with a Closure Table index (R109). -/
def releasePins (x : Visit) (s : State) : State :=
  { s with closures := (x.carried.filterMap (·.closureIx)).foldl (fun t i => Table.modify t i ClosureEntry.unpin) s.closures }

/-! ### Closing (R66, R67) -/

/-- The reference of a booking named by index (R70). -/
def State.refOf (s : State) (i : Nat) : Option Nat := (Table.lookup s.bookings i).map (·.ref)

/-- A carried entry as the Gate Transaction Record has it (R66). -/
def carriedRecord (s : State) (e : Carried) : CarriedRecord where
  position := e.position
  code := e.code
  booking := e.booking.bind s.refOf
  closure := e.closure
  damage := e.damage
  fired := e.fired
  findings := e.findings
  worst := e.worst
  reslot := e.reslot

/-- The Gate Transaction Record formed from a visit as it stands (R66). -/
def formRecord (s : State) (x : Visit) (o : CloseOutcome) : GateRecord where
  number := x.number
  lane := x.grantLane
  dir := x.dir
  outcome := o
  plate := x.plate.map (·.1)
  card := x.card
  carried := x.carried.map (carriedRecord s)
  picks := x.picks.filterMap s.refOf
  reasons := x.reasons
  arrival := x.arrival
  t2Verdict := x.t2Verdict
  t2Clear := x.t2Clear
  bay := x.lastBay
  holdsSeen := x.holdsSeen
  undirected := x.undirected

/-- A record joins the tail of the Record Queue with the next record tag (R167). -/
def pushRecord (r : GateRecord) (s : State) : State :=
  { s with records := s.records ++ [(s.recordTag, r)], recordTag := s.recordTag + 1 }

/-- The visit record becomes FREE, and goes at once to a parked lane (R47, R66). -/
def freeVisit (v : VisitIx) (s : State) : State := grantParked v (s.setVisit v none)

/-- A visit in CLOSING: its record formed, its indices cleared, bound to no lane (R66, R67). -/
def Visit.toClosing (r : GateRecord) (x : Visit) : Visit :=
  { x with
    state := .closing
    lane := none
    carried := x.carried.map fun e => { e with booking := none, closureIx := none }
    picks := []
    record := some r }

/-- The visit closes with an outcome: its record is formed and joins the Record Queue, the visit record becoming FREE, or with
the queue full the visit enters CLOSING as the newest (R66, R67). -/
def closeVisit (v : VisitIx) (o : CloseOutcome) (s : State) : State :=
  match s.visit v with
  | some x =>
    let r := formRecord s x o
    if s.records.length < Config.recordQueueSize then freeVisit v (pushRecord r s)
    else { s.modVisit v (Visit.toClosing r) with closing := s.closing ++ [v] }
  | none => s

/-- A Record Queue place that became free takes the oldest CLOSING visit's record, whose visit record becomes FREE (R67). -/
def placeClosing (s : State) : State :=
  match s.closing with
  | v :: rest =>
    let t := { s with closing := rest }
    match (s.visit v).bind (·.record) with
    | some r => freeVisit v (pushRecord r t)
    | none => t
  | [] => s

/-- HELD_RESOLVED is raised for a visit closed with AUTH_HOLD in its reason set (R155). -/
def resolvedNotice (x : Visit) (s : State) : State :=
  if x.hasReason .authHold then raiseAuthority heldResolved s else s

/-! ### Releasing a lane (R61, R30) -/

/-- The visit leaves its lane: its lane field becomes absent, the lane's pending-direction flag and direction entry reference
clear, and its direction is no longer acknowledged (R61, R139, R140). -/
def releaseLane (l : LaneId) (v : VisitIx) (s : State) : State :=
  (s.modVisit v fun x => { x with lane := none }).modLane l fun y =>
    { y with lcu := { y.lcu with pendingDir := false }, dirRef := none, dirAcked := false }

/-- A draining lane released by its visit takes its target at once (R30). -/
def drainRelease (l : LaneId) (s : State) : State :=
  let u := (s.lane l).lcu
  match u.target with
  | some m =>
    if u.mode = .draining then
      if m = .closed then enterClosed l s
      else raiseEvent .laneMode (lanePort l) (s.modLcu l fun w => { w with mode := m, target := none })
    else s
  | none => s

end Sys2Proof.Machine
end

