-- ==== Sys2Proof/Machine/Admission.lean ====
section
/-! DEFINITION. The Admission Unit (chapter 4): the admission lookup, windows and reslots, the Gate Clock, and its requests. -/

namespace Sys2Proof.Machine

/-! ### Matching (R83, R84, R85) -/

/-- An entry is live when it is OPEN, HELD or ENTERED (R70). -/
def Booking.live (b : Booking) : Bool :=
  match b.state with
  | .opened | .held | .entered => true
  | .closed | .cancelled => false

/-- An entry of a code and kind. -/
def Booking.isOf (c : Text) (k : BookingKind) (b : Booking) : Bool := b.code == c && b.kind == k

/-- The live entry of a code and kind, with its index (R70). -/
def State.liveBooking (s : State) (c : Text) (k : BookingKind) : Option (Nat × Booking) :=
  s.bookings.find? fun p => p.2.isOf c k && p.2.live

/-- The hold of a booking for a visit number (R71). -/
def Booking.hold (n : Nat) (b : Booking) : Booking :=
  { b with state := .held, heldFrom := some b.state, holder := some n }

/-- The booking kind that carried containers are matched to, and the state it is held from (R84, R85). -/
def carriedMatch : Dir → BookingKind × BookingState
  | .inGate => (.drop, .opened)
  | .outGate => (.pick, .entered)

/-- The booking kind that the card is matched to, and the state it is held from (R84, R85). -/
def cardMatch : Dir → BookingKind × BookingState
  | .inGate => (.pick, .opened)
  | .outGate => (.drop, .entered)

/-- A carried entry passes the code gate: a valid code at or above the code threshold (R83). -/
def Carried.passesGate (threshold : Nat) (e : Carried) : Bool := e.codeValid && threshold ≤ e.confidence

/-- The reasons of the code gate for one entry (R83). -/
def gateReasons (v : VisitIx) (threshold : Nat) (e : Carried) (s : State) : State :=
  let t := if e.codeValid then s else s.addReason v .codeInvalid
  if threshold ≤ e.confidence then t else t.addReason v .lowConfidence

/-- One carried entry is matched to the live entry of its code: held, or BOOKING_STATE, or NO_BOOKING (R84, R85). -/
def matchEntry (v : VisitIx) (x : Visit) (e : Carried) (s : State) : State :=
  let (kind, from_) := carriedMatch x.dir
  match s.liveBooking e.code kind with
  | some (i, b) =>
    if b.state = from_ then
      (modBookings (Booking.hold x.number) [i] s).modEntry v e.position fun c =>
        { c with booking := some i, closureReq := some b.closure }
    else s.addReason v .bookingState
  | none =>
    if s.bookings.any fun p => p.2.isOf e.code kind then s.addReason v .bookingState else s.addReason v .noBooking

/-- The code gate and the match of every carried entry, in position order (R83, R84, R85). -/
def matchCarried (v : VisitIx) (threshold : Nat) (x : Visit) (s : State) : State :=
  let t := x.carried.foldl (fun s e => gateReasons v threshold e s) s
  (x.carried.filter (Carried.passesGate threshold)).foldl (fun s e => matchEntry v x e s) t

/-- A booking with its index, put in ascending booking reference. -/
def insertByRef (p : Nat × Booking) : List (Nat × Booking) → List (Nat × Booking)
  | [] => [p]
  | q :: t => if p.2.ref ≤ q.2.ref then p :: q :: t else q :: insertByRef p t

/-- Bookings in ascending booking reference. -/
def sortByRef (t : List (Nat × Booking)) : List (Nat × Booking) := t.foldr insertByRef []

/-- The bookings of a card, kind and state, in ascending booking reference (R84, R85). -/
def State.cardBookings (s : State) (card : Text) (k : BookingKind) (st : BookingState) : List Nat :=
  (sortByRef (s.bookings.filter fun p => p.2.kind == k && p.2.state == st && p.2.card == some card)).map (·.1)

/-- How many bookings are sought by card: in-gate 2 minus the carried entries, out-gate 2 (R84, R85). -/
def cardSought (x : Visit) : Nat :=
  match x.dir with
  | .inGate => 2 - x.carried.length
  | .outGate => 2

/-- The bookings sought by card are held and join the pick-bookings list; a BARE visit that holds none adds NO_BOOKING (R84, R85). -/
def matchCard (v : VisitIx) (x : Visit) (s : State) : State :=
  let (kind, from_) := cardMatch x.dir
  let found := match x.card with
    | some c => (s.cardBookings c kind from_).take (cardSought x)
    | none => []
  let t := (modBookings (Booking.hold x.number) found s).modVisit v fun y => { y with picks := found }
  if x.load = .bare ∧ found = [] then t.addReason v .noBooking else t

/-! ### Plate and card checks (R86) -/

/-- The bookings at indices. -/
def State.bookingsAt (s : State) (ixs : List Nat) : List Booking := ixs.filterMap fun i => Table.lookup s.bookings i

/-- The plate check of every held booking (R86). -/
def checkPlate (v : VisitIx) (threshold : Nat) (x : Visit) (s : State) : State :=
  match x.plate with
  | some (p, c) =>
    if x.listed = [] then s
    else if c < threshold then s.addReason v .lowConfidence
    else if (s.bookingsAt x.listed).any fun b => match b.plate with | some q => q != p | none => false
    then s.addReason v .plateMismatch
    else s
  | none => s

/-- The card check of every held booking (R86). -/
def checkCard (v : VisitIx) (x : Visit) (s : State) : State :=
  match x.card with
  | some c =>
    if (s.bookingsAt x.listed).any fun b => match b.card with | some d => d != c | none => false
    then s.addReason v .cardMismatch
    else s
  | none => s

/-! ### Windows (R79, R87, R88) -/

/-- The span of a window contains a minute (R77). -/
def Window.contains (w : Window) (m : Nat) : Bool := w.start ≤ m && m ≤ w.start + w.length - 1

/-- The current window: the lowest-index loaded window whose span contains the Gate Clock's minute (R79). -/
def State.currentWindow (s : State) : Option Nat :=
  match s.minute with
  | some m => (List.range 64).find? fun i => match s.window i with | some w => w.contains m | none => false
  | none => none

/-- A late booking is reslotted to the current window where it is another window with room, adding LATE_RESLOTTED; otherwise
LATE_NO_SPACE is added (R88). -/
def reslot (v : VisitIx) (i : Nat) (b : Booking) (p : Option Position) (s : State) : State :=
  match s.currentWindow with
  | some c =>
    match s.window c with
    | some w =>
      if c ≠ b.window ∧ w.used < w.capacity then
        let t := (s.modUsed b.window fun n => n - 1).modUsed c fun n => n + 1
        let t := modBookings (fun y => { y with window := c }) [i] t
        let t := t.addReason v .lateReslotted
        match p with
        | some pos => t.modEntry v pos fun e => { e with reslot := some c }
        | none => t
      else s.addReason v .lateNoSpace
    | none => s.addReason v .lateNoSpace
  | none => s.addReason v .lateNoSpace

/-- One held booking is judged against its window with the arrival minute `a` (R87). -/
def judgeWindow (v : VisitIx) (a : Nat) (i : Nat) (p : Option Position) (s : State) : State :=
  match Table.lookup s.bookings i with
  | some b =>
    match s.window b.window with
    | some w =>
      if a + s.earlySlack < w.start then s.addReason v .early
      else if a ≤ w.start + w.length - 1 + s.lateSlack then s
      else reslot v i b p s
    | none => s
  | none => s

/-- The held bookings of a visit with the carried entry each is held by, in the order of the window check (04, section 4.4). -/
def Visit.heldWithPosition (x : Visit) : List (Nat × Option Position) :=
  (x.carried.filterMap fun e => e.booking.map fun i => (i, some e.position)) ++ x.picks.map fun i => (i, none)

/-- The window check of every held booking of an in-gate visit; CLOCK_UNSET once where the arrival minute is absent (R87), and
nothing for a visit that holds no booking (log 18). -/
def checkWindows (v : VisitIx) (x : Visit) (s : State) : State :=
  match x.dir with
  | .outGate => s
  | .inGate =>
    match x.arrival with
    | some a => x.heldWithPosition.foldl (fun s p => judgeWindow v a p.1 p.2 s) s
    | none => if x.listed = [] then s else s.addReason v .clockUnset

/-- A step of the lookup, on the visit as it then stands. -/
def onVisit (v : VisitIx) (f : Visit → State → State) (s : State) : State :=
  match s.visit v with
  | some x => f x s
  | none => s

/-- The admission lookup (04, section 4.4): the code gate, the match by code and by card, the plate and card checks, the window
check, with the lane profile's thresholds as they stand. -/
def admissionLookup (l : LaneId) (v : VisitIx) (s : State) : State :=
  let p := s.profileOf l
  let t := onVisit v (matchCarried v p.codeThreshold) s
  let t := onVisit v (matchCard v) t
  let t := onVisit v (checkPlate v p.plateThreshold) t
  let t := onVisit v (checkCard v) t
  onVisit v (checkWindows v) t

/-! ### The Gate Clock (R80) -/

/-- A tick of a SET clock counts toward its next second (R80, R81). -/
def Clock.tick (c : Clock) : Clock := { c with ticks := c.ticks + 1 }

/-- A second of a SET clock, once 10 ticks have passed since the last: the seconds count advances, rolling into the minute
count at 60, and the minute after 1,048,575 is 0 (R80). -/
def Clock.advance (c : Clock) : Clock :=
  if c.ticks < Config.ticksPerSecond then c
  else if c.second + 1 < 60 then { c with second := c.second + 1, ticks := c.ticks - Config.ticksPerSecond }
  else
    { minute := if c.minute = Config.lastMinute then 0 else c.minute + 1
      second := 0
      ticks := c.ticks - Config.ticksPerSecond }

/-! ### Requests (R72 to R82) -/

/-- LOAD_BOOKING: the seven conditions in order, then the entry in the lowest-index empty place and its window counted (R72). -/
def reqLoadBooking (f : BookingLoad) (s : State) : Answer × State :=
  if !bookingOk f then refusedWith .badValue s
  else
    match s.window f.window with
    | none => refusedWith .badValue s
    | some w =>
      if f.kind = .pick ∧ f.card = none then refusedWith .badValue s
      else if s.bookings.any fun p => p.2.ref == f.ref then refusedWith .duplicate s
      else if (s.liveBooking f.code f.kind).isSome then refusedWith .duplicate s
      else if s.bookings.length ≥ Config.bookingPlaces then refusedWith .full s
      else if w.used ≥ w.capacity then refusedWith .full s
      else
        let i := Table.firstFree s.bookings
        let b : Booking :=
          { ref := f.ref, kind := f.kind, code := f.code, card := f.card, plate := f.plate, window := f.window,
            closure := f.closure, yard := f.yard, state := .opened, heldFrom := none, holder := none }
        applied (num 2 i) (({ s with bookings := Table.put s.bookings i b }).modUsed f.window fun n => n + 1)

/-- The entry with a booking reference, with its index. -/
def State.bookingOf (s : State) (r : Nat) : Option (Nat × Booking) := s.bookings.find? fun p => p.2.ref == r

/-- CANCEL_BOOKING (R73). -/
def reqCancelBooking (r : Nat) (s : State) : Answer × State :=
  if !inRange 0 4294967295 r then refusedWith .badValue s
  else
    match s.bookingOf r with
    | none => refusedWith .notFound s
    | some (i, b) =>
      match b.state with
      | .opened | .entered =>
        applied [] ((modBookings (fun y => { y with state := .cancelled }) [i] s).modUsed b.window fun n => n - 1)
      | .held => refusedWith .inUse s
      | .closed | .cancelled => refusedWith .state s

/-- PURGE_BOOKING (R74). -/
def reqPurgeBooking (r : Nat) (s : State) : Answer × State :=
  if !inRange 0 4294967295 r then refusedWith .badValue s
  else
    match s.bookingOf r with
    | none => refusedWith .notFound s
    | some (i, b) =>
      let t := { s with bookings := Table.remove s.bookings i }
      match b.state with
      | .closed => applied [] (t.modUsed b.window fun n => n - 1)
      | .cancelled => applied [] t
      | .held => refusedWith .inUse s
      | .opened | .entered => refusedWith .state s

/-- A booking entry's fields as bytes with its index, in the order of section 4.1 (R75, log 9). -/
def bookingBytes (i : Nat) (b : Booking) : List Byte :=
  num 2 i ++ num 4 b.ref ++ num 1 b.kind.toCode ++ b.code ++ optBytes textBytes b.card ++ optBytes textBytes b.plate
    ++ num 1 b.window ++ num 1 b.closure.toCode ++ num 1 b.yard ++ num 1 b.state.toCode
    ++ optBytes (fun st => num 1 (BookingState.toCode st)) b.heldFrom ++ optBytes (num 2) b.holder

/-- READ_BOOKING: by reference or by index; an empty place gives the mark *empty* (R75). -/
def reqReadBooking (sel : BookingSel) (s : State) : Answer × State :=
  match sel with
  | .ref r =>
    if !inRange 0 4294967295 r then refusedWith .badValue s
    else
      match s.bookingOf r with
      | some (i, b) => applied (1 :: bookingBytes i b) s
      | none => refusedWith .notFound s
  | .index i =>
    if i < Config.bookingPlaces then applied (optBytes (bookingBytes i) (Table.lookup s.bookings i)) s
    else refusedWith .badValue s

/-- FIND_BOOKING: the number of entries of the code and kind, then the live one first and the others in ascending reference, up
to 8 (R75), as a list with a count byte of its own (log 9). -/
def reqFindBooking (c : Text) (k : BookingKind) (s : State) : Answer × State :=
  if codeForm c then
    let all := s.bookings.filter fun p => p.2.isOf c k
    let ordered := all.filter (fun p => p.2.live) ++ sortByRef (all.filter fun p => !p.2.live)
    if all.isEmpty then refusedWith .notFound s
    else applied (num 2 all.length ++ listOf (fun p => bookingBytes p.1 p.2) (ordered.take 8)) s
  else refusedWith .badValue s

/-- LOAD_WINDOW (R77). -/
def reqLoadWindow (i start length capacity : Nat) (s : State) : Answer × State :=
  if inRange 0 63 i && inRange 0 Config.lastMinute start && inRange 1 240 length && inRange 0 255 capacity
      && start + length - 1 ≤ Config.lastMinute then
    match s.window i with
    | none => applied [] (s.setWindow i (some { start, length, capacity, used := 0 }))
    | some w =>
      if w.used = 0 then applied [] (s.setWindow i (some { start, length, capacity, used := 0 }))
      else if start ≠ w.start ∨ length ≠ w.length then refusedWith .inUse s
      else if capacity < w.used then refusedWith .inUse s
      else applied [] (s.setWindow i (some { w with capacity }))
  else refusedWith .badValue s

/-- REMOVE_WINDOW (R78). -/
def reqRemoveWindow (i : Nat) (s : State) : Answer × State :=
  if inRange 0 63 i then
    match s.window i with
    | none => refusedWith .notFound s
    | some w => if w.used > 0 then refusedWith .inUse s else applied [] (s.setWindow i none)
  else refusedWith .badValue s

/-- A window's fields as bytes (R78). -/
def windowBytes (w : Window) : List Byte := num 3 w.start ++ num 1 w.length ++ num 1 w.capacity ++ num 1 w.used

/-- READ_WINDOW: the window, or the mark *unloaded* (R78). -/
def reqReadWindow (i : Nat) (s : State) : Answer × State :=
  if inRange 0 63 i then applied (optBytes windowBytes (s.window i)) s else refusedWith .badValue s

/-- SET_CLOCK: the clock becomes SET, and the division of ticks into seconds starts afresh (R81). -/
def reqSetClock (minute second : Nat) (s : State) : Answer × State :=
  if inRange 0 Config.lastMinute minute && inRange 0 59 second then
    applied [] { s with clock := some { minute, second, ticks := 0 } }
  else refusedWith .badValue s

/-- The clock's state and, when SET, its counts, as bytes (R81, R172); the counts follow the state with no presence byte (log 9). -/
def clockBytes (c : Option Clock) : List Byte :=
  match c with
  | none => num 1 0
  | some c => num 1 1 ++ num 3 c.minute ++ num 1 c.second

/-- READ_CLOCK (R81). -/
def reqReadClock (s : State) : Answer × State :=
  applied (clockBytes s.clock ++ num 1 s.earlySlack ++ num 1 s.lateSlack) s

/-- SET_SLACK (R82). -/
def reqSetSlack (early late : Nat) (s : State) : Answer × State :=
  if inRange 0 120 early && inRange 0 120 late then applied [] { s with earlySlack := early, lateSlack := late }
  else refusedWith .badValue s

end Sys2Proof.Machine
end

