-- ==== Sys2Proof/Machine/Closures.lean ====
section
/-! DEFINITION. The Closure Check Unit (chapter 5): judging reads, starting evaluation, the Closure Table with its recency order and
pins, and its requests but LOAD_CLOSURE, which answers waiting visits (Verdicts.lean). -/

namespace Sys2Proof.Machine

/-! ### Judging reads (R104, R105) -/

/-- An INTACT_ONLY container: a TAG read decides by its tag state, a CAMERA read decides nothing (R104). -/
def judgeIntact (r : ClosureRead) : ClosureOutcome :=
  match r.tagState with
  | some .intact => .matched
  | some .broken => .broken
  | none => .pending

/-- Every seal number of the list appears among the reads. -/
def allSeen (seals : List Text) (reads : List ClosureRead) : Bool :=
  seals.all fun t => reads.any fun r => r.sealNo == t

/-- A LISTED container: BROKEN, then a foreign seal, then whether every listed seal has now been read (R105); `seen` are the reads
evaluated before. -/
def judgeListed (seals : List Text) (seen : List ClosureRead) (r : ClosureRead) : ClosureOutcome :=
  if r.tagState = some .broken then .broken
  else if r.sealNo ∉ seals then .mismatch
  else if allSeen seals (seen ++ [r]) then .matched
  else .pending

/-- A read judged under a requirement, where the requirement looks at reads (R104, R105). -/
def judgeRead (req : ClosureReq) (seals : List Text) (seen : List ClosureRead) (r : ClosureRead) : ClosureOutcome :=
  match req with
  | .intactOnly => judgeIntact r
  | .listed => judgeListed seals seen r
  | .noCheck => .pending

/-- Held reads evaluated in the order held, until one decides (R103, R106). -/
def judgeReads (req : ClosureReq) (seals : List Text) : List ClosureRead → List ClosureRead → ClosureOutcome
  | _, [] => .pending
  | seen, r :: rest =>
    match judgeRead req seals seen r with
    | .pending => judgeReads req seals (seen ++ [r]) rest
    | o => o

/-- The reason an outcome adds (05, section 5.3). -/
def closureReason : ClosureOutcome → Option Reason
  | .mismatch => some .closureMismatch
  | .broken => some .closureBroken
  | .missing => some .closureMissing
  | .unverified => some .closureUnverified
  | _ => none

/-- A carried entry's closure outcome is set, with the reason it adds. -/
def setClosure (v : VisitIx) (p : Position) (o : ClosureOutcome) (s : State) : State :=
  let t := s.modEntry v p fun e => { e with closure := o }
  match closureReason o with
  | some r => t.addReason v r
  | none => t

/-! ### The Closure Table (R94, R95, R96) -/

/-- The Closure Table entry of a code, with its index. -/
def State.closureOf (s : State) (c : Text) : Option (Nat × ClosureEntry) := s.closures.find? fun p => p.2.code == c

/-- The entry at an index moves to the most recent end of the recency order (R95). -/
def touchRecency (i : Nat) (s : State) : State := { s with recency := i :: s.recency.filter fun j => j ≠ i }

/-- A pin taken on an entry by a carried entry, which records the index (R96). -/
def takePin (v : VisitIx) (p : Position) (i : Nat) (s : State) : State :=
  { s with closures := Table.modify s.closures i fun c => { c with pins := c.pins + 1 } }.modEntry v p fun e =>
    { e with closureIx := some i }

/-- The seal list a carried entry is judged against: that of the entry it pins (R94). -/
def State.sealsOf (s : State) (e : Carried) : List Text :=
  ((e.closureIx.bind (Table.lookup s.closures)).map (·.seals)).getD []

/-! ### Evaluation (R103, R107) -/

/-- Closure evaluation of one carried entry at CHECKING entry (R103, R107). -/
def startClosure (l : LaneId) (v : VisitIx) (e : Carried) (s : State) : State :=
  match e.closureReq with
  | none => setClosure v e.position .notChecked s
  | some .noCheck => setClosure v e.position .notRequired s
  | some .intactOnly => setClosure v e.position (judgeReads .intactOnly [] [] e.reads) s
  | some .listed =>
    match s.closureOf e.code with
    | some (i, c) =>
      setClosure v e.position (judgeReads .listed c.seals [] e.reads) (touchRecency i (takePin v e.position i s))
    | none => raiseEvent .closureMiss (lanePort l) (setClosure v e.position .awaitingRecord s)

/-- Closure evaluation begins for every carried entry, in position order (R103). -/
def startClosures (l : LaneId) (v : VisitIx) (s : State) : State :=
  onVisit v (fun x s => x.carried.foldl (fun s e => startClosure l v e s) s) s

/-- A read kept in CHECKING is handed over: evaluated while the outcome is PENDING, else left (R105, R106, R107); `e` is the carried
entry as it stood before the read was kept. -/
def evaluateRead (v : VisitIx) (e : Carried) (r : ClosureRead) (s : State) : State :=
  if e.closure = .pending then
    setClosure v e.position (judgeRead (e.closureReq.getD .noCheck) (s.sealsOf e) e.reads r) s
  else s

/-- Undecided closure outcomes of a visit become NOT_CHECKED, with no reason (R64, R68, R106). -/
def abandonClosure (e : Carried) : Carried :=
  if e.closure = .pending ∨ e.closure = .awaitingRecord then { e with closure := .notChecked } else e

/-- Check-window expiry for one carried entry: PENDING becomes MISSING, AWAITING_RECORD becomes UNVERIFIED (R106). -/
def expireClosure (v : VisitIx) (e : Carried) (s : State) : State :=
  if e.closure = .pending then setClosure v e.position .missing s
  else if e.closure = .awaitingRecord then setClosure v e.position .unverified s
  else s

/-! ### Requests (R97, R101, R102) -/

/-- REMOVE_CLOSURE (R101). -/
def reqRemoveClosure (c : Text) (s : State) : Answer × State :=
  if codeForm c then
    match s.closureOf c with
    | none => refusedWith .notFound s
    | some (i, e) =>
      if e.pins > 0 then refusedWith .inUse s
      else applied [] { s with closures := Table.remove s.closures i, recency := s.recency.filter fun j => j ≠ i }
  else refusedWith .badValue s

/-- SET_RETAIN (R97). -/
def reqSetRetain (c : Text) (b : Bool) (s : State) : Answer × State :=
  if codeForm c then
    match s.closureOf c with
    | none => refusedWith .notFound s
    | some (i, e) =>
      if e.pins > 0 then refusedWith .inUse s
      else applied [] { s with closures := Table.modify s.closures i fun y => { y with retain := b } }
  else refusedWith .badValue s

/-- A Closure Table entry's fields as bytes, with its index and recency rank (R102, log 9). -/
def State.closureBytes (s : State) (i : Nat) (e : ClosureEntry) : List Byte :=
  num 2 i ++ e.code ++ textsBytes e.seals ++ flagByte e.retain ++ num 1 e.pins ++ num 2 (s.recency.idxOf i)

/-- The reply of READ_CLOSURE for a place: the entry or the mark *empty*, then the number of occupied places (R102). An entry named by
code or by recency rank, which no mark can stand in place of, is preceded by 01h all the same (log 9). -/
def State.closureReply (s : State) (i : Nat) : List Byte :=
  optBytes (s.closureBytes i) (Table.lookup s.closures i) ++ num 2 s.closures.length

/-- READ_CLOSURE: by code, by index or by recency rank (R102). -/
def reqReadClosure (sel : ClosureSel) (s : State) : Answer × State :=
  match sel with
  | .code c =>
    if codeForm c then
      match s.closureOf c with
      | some (i, _) => applied (s.closureReply i) s
      | none => refusedWith .notFound s
    else refusedWith .badValue s
  | .index i => if i < Config.closurePlaces then applied (s.closureReply i) s else refusedWith .badValue s
  | .rank r =>
    if r < Config.closurePlaces then
      match s.recency[r]? with
      | some i => applied (s.closureReply i) s
      | none => refusedWith .notFound s
    else refusedWith .badValue s

end Sys2Proof.Machine
end

