-- ==== Sys2Proof/Machine/Sweeps.lean ====
section
/-! DEFINITION. The Damage Sweep Unit (chapter 6): starting and stopping sweeps, findings and the damage rules, sweep ends, and its
requests. -/

namespace Sys2Proof.Machine

/-! ### Starting and stopping (R113, R118) -/

/-- The set of positions of carried entries. -/
def positionSet (es : List Carried) : BitVec 8 := es.foldl (fun m e => addBit m e.position.toCode) 0

/-- All rules in ascending index. -/
def allRules : List (Fin 16) := List.finRange 16

/-- The match states of a new sweep: one for each position and rule of its sets, with the rule's tolerance as the table holds it (R113). -/
def newStates (s : State) (es : List Carried) (rules : BitVec 16) : List MatchState :=
  es.flatMap fun e =>
    (allRules.filter fun i => hasBit rules i.val).map fun i =>
      { position := e.position, rule := i, countdown := (s.rules.get i).tolerance, armed := false, fired := false }

/-- The damage outcome of every carried entry becomes NOT_SWEPT (R53). -/
def markNotSwept (v : VisitIx) (s : State) : State :=
  s.modVisit v fun x => { x with carried := x.carried.map fun e => { e with damage := .notSwept } }

/-- The fourth step of CHECKING entry: a sweep is started, or with nothing to sweep every damage outcome is NOT_SWEPT (R53, R113). -/
def startSweep (l : LaneId) (v : VisitIx) (x : Visit) (s : State) : State :=
  let p := s.profileOf l
  let n := (s.lane l).sweep.next
  let pos := positionSet x.carried
  if x.carried = [] ∨ p.panels = 0 then markNotSwept v s
  else
    produceSweep l (.sweep n pos p.panels) (s.modSweep l fun _ =>
      { phase := .running
        next := n + 1
        last := some n
        lastEnd := none
        info := some
          { visit := x.number, positions := pos, panels := p.panels, rules := p.rules, applied := 0,
            states := newStates s x.carried p.rules } })

/-- The lane's sweep is running. -/
def State.sweeping (s : State) (l : LaneId) : Bool := (s.lane l).sweep.phase == .running

/-- A running sweep is stopped: a STOP with its number, the phase IDLE and the last sweep end STOPPED (R118). -/
def stopSweep (l : LaneId) (s : State) : State :=
  if s.sweeping l then
    (produceSweep l (.stop ((s.lane l).sweep.last.getD 0)) s).modSweep l fun w =>
      { w with phase := .idle, lastEnd := some .stopped }
  else s

/-- A damage outcome still PENDING takes another value (R116, R118, R68). -/
def settleDamage (o : DamageOutcome) (e : Carried) : Carried := if e.damage = .pending then { e with damage := o } else e

/-- The positions the lane's sweep has in its set. -/
def Sweep.covers (w : Sweep) (p : Position) : Bool :=
  match w.info with
  | some i => hasBit i.positions p.toCode
  | none => false

/-- PENDING damage outcomes of the swept positions take another value. -/
def settleSwept (l : LaneId) (v : VisitIx) (o : DamageOutcome) (s : State) : State :=
  let w := (s.lane l).sweep
  s.modVisit v fun x => { x with carried := x.carried.map fun e => if w.covers e.position then settleDamage o e else e }

/-! ### Which sweep a frame belongs to (R114) -/

/-- What the sweep number of a FIND or SWEEP_END decides. -/
inductive SweepCase where
  | applies | stale | unexpected
  deriving DecidableEq, Repr

/-- The number is older than the last: it lies in the 32767 numbers before it, counting back with wrap (R114). -/
def olderNumber (n last : BitVec 16) : Bool := 1 ≤ (last - n).toNat && (last - n).toNat ≤ 32767

/-- The judgement of a frame's sweep number against the lane's sweep state (R114). -/
def Sweep.classify (w : Sweep) (n : BitVec 16) : SweepCase :=
  match w.last with
  | none => .unexpected
  | some last =>
    if n = last then
      if w.phase = .running then .applies else if w.lastEnd = some .stopped then .stale else .unexpected
    else if olderNumber n last then .stale
    else .unexpected

/-! ### Rules (R121 to R125) -/

/-- The parts of a finding the rules look at. -/
structure Finding where
  position : Position
  panel : Panel
  defect : Defect
  severity : Nat
  extent : Nat
  deriving DecidableEq, Repr

/-- A condition between a finding's value and a matcher's (R121). -/
def conditionHolds (c : Condition) (a b : Nat) : Bool :=
  match c with
  | .ne => a ≠ b
  | .eq => a = b
  | .lt => a < b
  | .gt => a > b

/-- The value a measure takes from a finding (R121). -/
def measured (m : Measure) (f : Finding) : Nat :=
  match m with
  | .severity => f.severity
  | .extent => f.extent

/-- A finding matches a matcher (R121). -/
def matcherMatches (m : Matcher) (f : Finding) : Bool :=
  hasBit m.panels f.panel.toCode && hasBit m.defects f.defect.toCode && conditionHolds m.condition (measured m.measure f) m.value

/-- A finding matches matcher B, where there is one. -/
def matchesB (r : Rule) (f : Finding) : Bool :=
  match r.b with
  | some m => matcherMatches m f
  | none => false

/-- The finding is a qualifying event, with the armed flag as it stood before it (R122). -/
def qualifies (r : Rule) (armed : Bool) (f : Finding) : Bool :=
  match r.combine with
  | .either => matcherMatches r.a f || matchesB r f
  | .both => matcherMatches r.a f && matchesB r f
  | .bAfterA => matchesB r f && armed
  | .aAfterB => matcherMatches r.a f && armed

/-- The finding sets the armed flag (R122). -/
def arms (r : Rule) (f : Finding) : Bool :=
  match r.combine with
  | .either | .both => false
  | .bAfterA => matcherMatches r.a f
  | .aAfterB => matchesB r f

/-- The match state after a finding: armed, stepped on a qualifying event, fired when that finds the countdown at 0 (R122, R123). -/
def MatchState.step (r : Rule) (f : Finding) (m : MatchState) : MatchState :=
  let t := { m with armed := m.armed || arms r f }
  if qualifies r m.armed f then
    if m.countdown > 0 then { t with countdown := m.countdown - 1 } else { t with fired := true }
  else t

/-- A match state is judged by its rule for a finding: the rule enabled, the position the finding's, and not yet fired (R122, R123). -/
def MatchState.judged (r : Rule) (f : Finding) (m : MatchState) : Bool := r.enabled && m.position == f.position && !m.fired

/-- The damage outcome of an entry after a rule of class MINOR fires (R124). -/
def minorOutcome (o : DamageOutcome) : DamageOutcome := if o = .pending then .minor else o

/-- The effect of a MINOR rule on the visit: the outcome, and DAMAGE_MINOR where it was PENDING (R124). -/
def fireMinor (v : VisitIx) (p : Position) (s : State) : State :=
  onVisit v (fun x s =>
    let t := s.modEntry v p fun e => { e with damage := minorOutcome e.damage }
    if (x.entryAt p).any fun e => e.damage == .pending then t.addReason v .damageMinor else t) s

/-- The effect of a SURVEY or HOLD rule on the visit: the outcome SURVEY, and DAMAGE_SURVEY (R124). -/
def fireSurvey (v : VisitIx) (p : Position) (s : State) : State :=
  (s.modEntry v p fun e => { e with damage := .survey }).addReason v .damageSurvey

/-- A rule fires for a position: its index joins the fired rule set and its action is taken (R124). -/
def fireRule (l : LaneId) (v : VisitIx) (i : Fin 16) (p : Position) (a : RuleAction) (s : State) : State :=
  let t := s.modEntry v p fun e => { e with fired := addBit e.fired i.val }
  match a with
  | .minor => fireMinor v p t
  | .survey => fireSurvey v p t
  | .hold => addCause l .rule (fireSurvey v p t)

/-- The lane's match states changed. -/
def modStates (l : LaneId) (f : MatchState → MatchState) (s : State) : State :=
  s.modSweep l fun w => { w with info := w.info.map fun i => { i with states := i.states.map f } }

/-- The match state of a rule for a finding's position that the rule judges. -/
def State.judgedState (s : State) (l : LaneId) (i : Fin 16) (f : Finding) : Option MatchState :=
  (s.lane l).sweep.info.bind fun w => w.states.find? fun m => m.rule = i && m.judged (s.rules.get i) f

/-- One rule of the sweep's rule set judges a finding: its match state steps, and it fires where the step says so (R122, R123). -/
def judgeRule (l : LaneId) (v : VisitIx) (f : Finding) (s : State) (i : Fin 16) : State :=
  match s.judgedState l i f with
  | some m =>
    let r := s.rules.get i
    let t := modStates l (fun y => if y.rule = i ∧ y.position = f.position then y.step r f else y) s
    if (m.step r f).fired then fireRule l v i f.position r.action t else t
  | none => s

/-- The rules of the sweep's rule set judge a finding, in ascending index (R125). -/
def judgeFinding (l : LaneId) (v : VisitIx) (f : Finding) (s : State) : State := allRules.foldl (judgeRule l v f) s

/-! ### Findings and sweep ends (R115, R116) -/

/-- A count that stops at 1023. -/
def countUp (n : Nat) : Nat := if n < Config.findingMax then n + 1 else n

/-- The finding joins the carried entry's count and worst severity (R115). -/
def Carried.addFinding (severity : Nat) (e : Carried) : Carried :=
  { e with findings := countUp e.findings, worst := some (match e.worst with | some w => max w severity | none => severity) }

/-- The finding is of a position and panel the sweep was asked for (R115). -/
def Sweep.requested (w : Sweep) (f : Finding) : Bool :=
  match w.info with
  | some i => hasBit i.positions f.position.toCode && hasBit i.panels f.panel.toCode
  | none => false

/-- A FIND of the running sweep and within its request is applied: counted, added to its entry, judged (R115). -/
def applyFinding (l : LaneId) (f : Finding) (s : State) : State :=
  let t := s.modSweep l fun w => { w with info := w.info.map fun i => { i with applied := countUp i.applied } }
  match s.bound l with
  | some (v, _) => judgeFinding l v f (t.modEntry v f.position (Carried.addFinding f.severity))
  | none => t

/-- The end of a sweep is complete: status COMPLETE and the count carried equal to the applied count (R116). -/
def Sweep.endsComplete (w : Sweep) (st : SweepStatus) (count : Nat) : Bool :=
  st == .complete && (match w.info with | some i => i.applied == count | none => false)

/-- A SWEEP_END of the running sweep ends it (R116). -/
def endSweep (l : LaneId) (st : SweepStatus) (count : Nat) (s : State) : State :=
  let w := (s.lane l).sweep
  let t := match s.bound l with
    | some (v, _) =>
      if w.endsComplete st count then settleSwept l v .clean s
      else (settleSwept l v .incomplete s).addReason v .sweepIncomplete
    | none => s
  t.modSweep l fun w => { w with phase := .idle, lastEnd := some .ended }

/-! ### Requests (R120, R126, R128) -/

/-- A match state reloaded by a write to its rule, unless it has fired (R126). -/
def MatchState.reload (i : Fin 16) (tolerance : Nat) (m : MatchState) : MatchState :=
  if m.rule = i ∧ !m.fired then { m with countdown := tolerance, armed := false } else m

/-- A running sweep's match states of a written rule are reloaded (R126). -/
def Sweep.reload (i : Fin 16) (tolerance : Nat) (w : Sweep) : Sweep :=
  if w.phase = .running then
    { w with info := w.info.map fun n => { n with states := n.states.map (MatchState.reload i tolerance) } }
  else w

/-- WRITE_RULE (R120, R126). -/
def reqWriteRule (i : Nat) (r : Rule) (s : State) : Answer × State :=
  if h : i < 16 ∧ ruleOk r then
    applied []
      { s with
        rules := s.rules.set i r h.1
        lanes := s.lanes.map fun x => { x with sweep := x.sweep.reload ⟨i, h.1⟩ r.tolerance } }
  else refusedWith .badValue s

/-- READ_RULE (R128). -/
def reqReadRule (i : Nat) (s : State) : Answer × State :=
  if h : i < 16 then applied (s.rules.get ⟨i, h⟩).encode s else refusedWith .badValue s

/-- A match state as READ_SWEEP gives it (R128). -/
def MatchState.encode (m : MatchState) : List Byte := num 1 m.countdown ++ flagByte m.armed ++ flagByte m.fired

/-- The match states of a sweep as READ_SWEEP gives them, by position and rule, with no count (R128, log 9). -/
def matchStatesBytes (ms : List MatchState) : List Byte := ms.flatMap MatchState.encode

/-- What the sweep keeps as READ_SWEEP gives it: each field optional, and absent after a reset, the match states one such field
(R128, R129, R182, log 9). -/
def sweepInfoBytes (o : Option SweepInfo) : List Byte :=
  optBytes (num 2) (o.map (·.visit)) ++ optBytes maskBytes (o.map (·.positions)) ++ optBytes maskBytes (o.map (·.panels))
    ++ optBytes maskBytes (o.map (·.rules)) ++ optBytes (num 2) (o.map (·.applied))
    ++ optBytes matchStatesBytes (o.map (·.states))

/-- READ_SWEEP (R128). -/
def reqReadSweep (n : Nat) (s : State) : Answer × State :=
  withLane n (fun l s =>
    let w := (s.lane l).sweep
    applied
      (num 1 w.phase.toCode ++ num 2 w.next.toNat ++ optBytes (fun (b : BitVec 16) => num 2 b.toNat) w.last
        ++ optBytes (fun (e : SweepEnd) => num 1 e.toCode) w.lastEnd ++ sweepInfoBytes w.info) s) s

end Sys2Proof.Machine
end

