-- ==== Sys2Proof/Machine/Verdicts.lean ====
section
/-! DEFINITION. Checking and verdicts (chapter 3): entry into CHECKING, the completion test, verdict composition and placement, the
two window expiries, and LOAD_CLOSURE, which makes completion tests (R98 to R100). -/

namespace Sys2Proof.Machine

/-! ### Composing a verdict (R56, R57) -/

/-- Some reason of the set has the policy class (R55, R56); the writable reasons are those coded 0 to 18. -/
def hasClass (policy : Vector PolicyClass 19) (reasons : BitVec 32) (c : PolicyClass) : Bool :=
  (List.finRange 19).any fun i => hasBit reasons i.val && policy.get i == c

/-- The verdict a reason set gives: REFER with AUTH_HOLD, else REJECT, REFER or ADMIT by the classes of its reasons (R56). -/
def composedVerdict (policy : Vector PolicyClass 19) (reasons : BitVec 32) : Verdict :=
  if hasBit reasons (Reason.toCode .authHold) then .refer
  else if hasClass policy reasons .reject then .reject
  else if hasClass policy reasons .refer then .refer
  else .admitted

/-- The visit takes a verdict, and the T2 verdict capture if that is absent (R56, R64). -/
def writeVerdict (l : LaneId) (v : VisitIx) (vd : Verdict) (s : State) : State :=
  s.modVisit v fun x => { x with verdict := some vd, t2Verdict := x.t2Verdict.or (s.lane l).lcu.t2 }

/-- The visit is placed toward its direction: the audit step of an ADMIT, the bay of a REFER, then DIRECTED with its direction shown
or pending (R57). -/
def placeVisit (l : LaneId) (v : VisitIx) (vd : Verdict) (s : State) : State :=
  match vd with
  | .admitted => enterDirected l v (auditStep l s)
  | .refer =>
    match claimBay v s with
    | (true, t) => enterDirected l v t
    | (false, t) => joinBayWait l v t
  | .reject => enterDirected l v s

/-- The verdict is composed from the reason set, written, recorded in the trail and placed (R56, R57). -/
def composeVerdict (l : LaneId) (v : VisitIx) (s : State) : State :=
  onVisit v (fun x s =>
    let vd := composedVerdict s.policy x.reasons
    placeVisit l v vd (appendBound .verdict vd l x (writeVerdict l v vd s))) s

/-! ### The completion test (R54) -/

/-- A closure outcome not yet decided. -/
def undecided (o : ClosureOutcome) : Bool := o == .pending || o == .awaitingRecord

/-- A visit in CHECKING with nothing outstanding: no undecided closure outcome, and no sweep of the lane running (R54). -/
def State.checkComplete (s : State) (l : LaneId) (x : Visit) : Bool :=
  x.state == .checking && !(x.carried.any fun e => undecided e.closure) && !s.sweeping l

/-- T0 of the lane stops. -/
def stopT0 (l : LaneId) (s : State) : State := s.modLcu l fun u => { u with t0 := none }

/-- T0 of the lane starts with a window kind and the window of the lane's profile (R33). -/
def startT0 (l : LaneId) (k : WindowKind) (s : State) : State :=
  let p := s.profileOf l
  s.modLcu l fun u => { u with t0 := some ((match k with | .read => p.readWindow | .check => p.checkWindow), k) }

/-- The completion test: when it passes, T0 stops and the verdict is composed (R54). -/
def completionTest (l : LaneId) (v : VisitIx) (s : State) : State :=
  onVisit v (fun x s => if s.checkComplete l x then composeVerdict l v (stopT0 l s) else s) s

/-- The completion test of the lane's bound visit. -/
def testBound (l : LaneId) (s : State) : State :=
  match s.bound l with
  | some (v, _) => completionTest l v s
  | none => s

/-! ### Entering CHECKING (R53, R151) -/

/-- The Hold List entry of a code, with its index (R148). -/
def State.holdOf (s : State) (c : Text) : Option (Nat × HoldEntry) := s.holdList.find? fun p => p.2.code == c

/-- A carried entry with its hold kind taken from the Hold List, where its code is valid and has an entry (R151). -/
def holdChecked (s : State) (e : Carried) : Carried :=
  if e.codeValid then
    match s.holdOf e.code with
    | some (_, h) => { e with holdKind := some h.kind }
    | none => e
  else e

/-- The Hold List check finds a held container among the carried entries (R151). -/
def State.carriesHeld (s : State) (x : Visit) : Bool := x.carried.any fun e => e.codeValid && (s.holdOf e.code).isSome

/-- The Hold List check of CHECKING entry: hold kinds, AUTH_HOLD, and HELD_ARRIVED raised (R151). -/
def holdListCheck (v : VisitIx) (x : Visit) (s : State) : State :=
  let t := s.modVisit v fun y => { y with carried := y.carried.map (holdChecked s) }
  if s.carriesHeld x then raiseAuthority heldArrived (t.addReason v .authHold) else t

/-- The visit enters CHECKING: its six steps in order (R53). -/
def enterChecking (l : LaneId) (v : VisitIx) (s : State) : State :=
  let t := admissionLookup l v (setVisitState v .checking s)
  let t := onVisit v (holdListCheck v) t
  let t := startClosures l v t
  let t := onVisit v (startSweep l v) t
  completionTest l v (startT0 l .check t)

/-- The number of containers a load class says the truck carries (R50). -/
def loadCount : LoadClass → Nat
  | .bare => 0
  | .one => 1
  | .two => 2

/-- Identity is complete: a plate, a card, and every position of the load filled (R50). -/
def Visit.identified (x : Visit) : Bool := x.plate.isSome && x.card.isSome && x.carried.length == loadCount x.load

/-- The identity test, made in IDENTIFYING (R50). -/
def identityTest (l : LaneId) (v : VisitIx) (s : State) : State :=
  onVisit v (fun x s => if x.state == .identifying && x.identified then enterChecking l v s else s) s

/-! ### Window expiries (R51, R54) -/

/-- The missing unit set of a visit with incomplete identity: PLATE, CARD, CODE (R51). -/
def Visit.missingUnits (x : Visit) : BitVec 8 :=
  let m := if x.plate.isNone then addBit (0#8) (UnitKind.toCode .plate) else 0
  let m := if x.card.isNone then addBit m (UnitKind.toCode .card) else m
  if x.carried.length < loadCount x.load then addBit m (UnitKind.toCode .code) else m

/-- The read window of a visit in IDENTIFYING runs out: one reread, or READ_MISSING and CHECKING (R51). -/
def readWindowRunsOut (l : LaneId) (v : VisitIx) (x : Visit) (s : State) : State :=
  if (s.profileOf l).reread && !x.rereaded then
    (startT0 l .read (produceReread l x.missingUnits s)).modVisit v fun y => { y with rereaded := true }
  else enterChecking l v (s.addReason v .readMissing)

/-- T0 has run to 0 with a window kind on a lane that is not held (R33). -/
def State.t0Due (s : State) (l : LaneId) (k : WindowKind) : Bool := !s.held l && (s.lane l).lcu.t0 == some (0, k)

/-- T0 expires with window kind READ: it stops, and the bound visit in IDENTIFYING is dealt with (R33, R51). -/
def expireRead (l : LaneId) (s : State) : State :=
  if s.t0Due l .read then
    let t := stopT0 l s
    match t.bound l with
    | some (v, x) => if x.state = .identifying then readWindowRunsOut l v x t else t
    | none => t
  else s

/-- The sweep outstanding at check-window expiry: stopped, with INCOMPLETE outcomes and SWEEP_INCOMPLETE (R54, R118). -/
def expireSweep (l : LaneId) (v : VisitIx) (s : State) : State :=
  if s.sweeping l then stopSweep l ((settleSwept l v .incomplete s).addReason v .sweepIncomplete) else s

/-- T0 expires with window kind CHECK: it stops, the outstanding checks of the bound visit in CHECKING end, and its verdict is
composed (R33, R54). -/
def expireCheck (l : LaneId) (s : State) : State :=
  if s.t0Due l .check then
    let t := stopT0 l s
    match t.bound l with
    | some (v, x) =>
      if x.state = .checking then
        composeVerdict l v (expireSweep l v (x.carried.foldl (fun s e => expireClosure v e s) t))
      else t
    | none => t
  else s

/-! ### LOAD_CLOSURE (R98, R99, R100) -/

/-- The index that gives way in a full table: the least recent entry unpinned and not retained (R99). -/
def State.victim (s : State) : Option Nat :=
  s.recency.reverse.find? fun i =>
    match Table.lookup s.closures i with
    | some e => e.pins == 0 && !e.retain
    | none => false

/-- A carried entry that waits for the record of a code (R100). -/
def Carried.waitsFor (c : Text) (e : Carried) : Bool := e.code == c && e.closure == .awaitingRecord

/-- A waiting carried entry is answered: it pins the new entry, and the reads it holds are evaluated (R100). -/
def answerEntry (v : VisitIx) (i : Nat) (seals : List Text) (e : Carried) (s : State) : State :=
  setClosure v e.position (judgeReads .listed seals [] e.reads) (takePin v e.position i s)

/-- One visit's waiting carried entries are answered, then its completion test is made (R100). -/
def answerVisit (c : Text) (i : Nat) (seals : List Text) (s : State) (v : VisitIx) : State :=
  match s.visit v with
  | some x =>
    match x.carried.filter (Carried.waitsFor c) with
    | [] => s
    | es =>
      let t := es.foldl (fun s e => answerEntry v i seals e s) s
      match x.lane with
      | some l => completionTest l v t
      | none => t
  | none => s

/-- The number of carried entries that wait for the record of a code (R100). -/
def State.waiting (s : State) (c : Text) : Nat :=
  (allVisits.flatMap fun v => match s.visit v with | some x => x.carried.filter (Carried.waitsFor c) | none => []).length

/-- The entry a load adds at an index, offered to the waiting containers in ascending Visit Table index (R99, R100). -/
def addClosure (c : Text) (seals : List Text) (i : Nat) (s : State) : State :=
  let t := touchRecency i
    { s with closures := Table.put s.closures i { code := c, seals := seals, retain := false, pins := 0 } }
  allVisits.foldl (answerVisit c i seals) t

/-- The result fields of LOAD_CLOSURE: result, index, evicted code and index if any, number answered (05 section 5.2, log 9). -/
def loadResultBytes (r : LoadResult) (i : Nat) (evicted : Option (Text × Nat)) (answered : Nat) : List Byte :=
  num 1 r.toCode ++ num 2 i ++ optBytes (fun (p : Text × Nat) => p.1 ++ num 2 p.2) evicted ++ num 1 answered

/-- LOAD_CLOSURE (R98, R99, R100). -/
def reqLoadClosure (c : Text) (seals : List Text) (s : State) : Answer × State :=
  if !(codeValid c && sealsOk seals) then refusedWith .badValue s
  else
    match s.closureOf c with
    | some (i, e) =>
      if e.pins > 0 then refusedWith .inUse s
      else
        applied (loadResultBytes .replaced i none 0)
          (touchRecency i { s with closures := Table.modify s.closures i fun y => { y with seals := seals } })
    | none =>
      if s.closures.length < Config.closurePlaces then
        let i := Table.firstFree s.closures
        applied (loadResultBytes .added i none (s.waiting c)) (addClosure c seals i s)
      else
        match s.victim with
        | some i =>
          let evicted := (Table.lookup s.closures i).map fun e => (e.code, i)
          applied (loadResultBytes .added i evicted (s.waiting c)) (addClosure c seals i s)
        | none => refusedWith .full s

end Sys2Proof.Machine
end

