-- ==== Sys2Proof/Machine/Applying.lean ====
section
/-! DEFINITION. Applying the head of a receive queue (R12, R29) by its class and the bound visit's state (R46 to R52, R61, R114). -/

namespace Sys2Proof.Machine

/-- A frame applied that fits no state: it leaves the queue and UNEXPECTED is recorded with it (R52, R12). -/
def unexpected (l : LaneId) (f : LaneFrame) (s : State) : State := recordLane l .unexpected f.wire (popHead l s)

/-- The lane has an ARRIVE waiting in the Parked Arrival Queue (R47). -/
def State.isParked (s : State) (l : LaneId) : Bool := s.parked.contains l

/-- The head of the receive queue may be applied, but for the hold (R29, R39). -/
def State.mayTake (s : State) (l : LaneId) : Bool :=
  modeIsOpen (s.lane l).lcu.mode || ((s.lane l).lcu.mode == .draining && (s.bound l).isSome)

/-- The head of the receive queue may be applied (R29). -/
def State.mayApply (s : State) (l : LaneId) : Bool := s.mayTake l && !s.held l && !s.isParked l

/-! ### Each class -/

/-- An ARRIVE applied: the grant, parking, or UNEXPECTED with a visit bound (R46, R47, R52). -/
def arriveApplied (l : LaneId) (f : LaneFrame) (load : LoadClass) (s : State) : State :=
  match s.bound l with
  | some _ => unexpected l f s
  | none =>
    match s.freeRecord with
    | some v => grant l v load s
    | none => park l s

/-- The bound visit in IDENTIFYING takes a read; any other state or no visit makes the frame UNEXPECTED (R52). -/
def inIdentifying (l : LaneId) (f : LaneFrame) (k : VisitIx → Visit → State → State) (s : State) : State :=
  match s.bound l with
  | some (v, x) => if x.state = .identifying then identityTest l v (k v x (popHead l s)) else unexpected l f s
  | none => unexpected l f s

/-- A plate read: it is taken where none is held or its confidence is equal or higher (R48). -/
def Visit.takePlate (conf : Nat) (t : Text) (x : Visit) : Visit :=
  match x.plate with
  | some (_, c) => if c ≤ conf then { x with plate := some (t, conf) } else x
  | none => { x with plate := some (t, conf) }

/-- A PLATE applied (R48). -/
def plateApplied (l : LaneId) (f : LaneFrame) (conf : Nat) (t : Text) (s : State) : State :=
  inIdentifying l f (fun v _ s => s.modVisit v (Visit.takePlate conf t)) s

/-- A CARD applied: the latest read stands (R48). -/
def cardApplied (l : LaneId) (f : LaneFrame) (t : Text) (s : State) : State :=
  inIdentifying l f (fun v _ s => s.modVisit v fun x => { x with card := some t }) s

/-- The position is one the load class permits (R49). -/
def positionPermitted : LoadClass → Position → Bool
  | .one, .single => true
  | .two, .front => true
  | .two, .rear => true
  | _, _ => false

/-- A new carried entry with its starting values (R49, section 3.1). -/
def newCarried (p : Position) (conf : Nat) (c : Text) : Carried where
  position := p
  code := c
  confidence := conf
  codeValid := codeValid c
  booking := none
  closureReq := none
  closureIx := none
  reads := []
  closure := .pending
  damage := .pending
  fired := 0
  findings := 0
  worst := none
  reslot := none
  holdKind := none

/-- A carried entry put at its place in position order (R49). -/
def insertCarried (e : Carried) : List Carried → List Carried
  | [] => [e]
  | d :: t => if e.position.toCode < d.position.toCode then e :: d :: t else d :: insertCarried e t

/-- A held code read replaced by one of higher confidence, the closure reads kept (R49). -/
def Carried.takeCode (conf : Nat) (c : Text) (e : Carried) : Carried :=
  if e.confidence < conf then { e with code := c, confidence := conf, codeValid := Sys2Proof.codeValid c } else e

/-- Two reads of one position conflict: both at or above the threshold, with different codes (R49, R2). -/
def codesConflict (threshold conf : Nat) (c : Text) (e : Carried) : Bool :=
  threshold ≤ e.confidence && threshold ≤ conf && e.code != c

/-- A code read taken into the visit (R49). -/
def takeCode (l : LaneId) (v : VisitIx) (p : Position) (conf : Nat) (c : Text) (x : Visit) (s : State) : State :=
  if positionPermitted x.load p then
    match x.entryAt p with
    | none => s.modVisit v fun y => { y with carried := insertCarried (newCarried p conf c) y.carried }
    | some e =>
      let t := if codesConflict (s.profileOf l).codeThreshold conf c e then s.addReason v .readConflict else s
      t.modEntry v p (Carried.takeCode conf c)
  else s.addReason v .readConflict

/-- A CODE applied (R49). -/
def codeApplied (l : LaneId) (f : LaneFrame) (p : Position) (conf : Nat) (c : Text) (s : State) : State :=
  inIdentifying l f (fun v x s => takeCode l v p conf c x s) s

/-- A closure read kept at the tail of its entry's reads (R52). -/
def keepRead (v : VisitIx) (p : Position) (r : ClosureRead) (s : State) : State :=
  s.modEntry v p fun e => { e with reads := e.reads ++ [r] }

/-- The carried entry a CLOSURE is kept in: that of its position, with fewer than 3 reads (R52). -/
def Visit.roomForRead (x : Visit) (p : Position) : Option Carried :=
  (x.entryAt p).bind fun e => if e.reads.length < Config.readsMax then some e else none

/-- A CLOSURE applied: kept in IDENTIFYING, kept and evaluated in CHECKING, else UNEXPECTED (R52). -/
def closureApplied (l : LaneId) (f : LaneFrame) (p : Position) (r : ClosureRead) (s : State) : State :=
  match s.bound l with
  | some (v, x) =>
    match x.roomForRead p with
    | some e =>
      if x.state = .identifying then keepRead v p r (popHead l s)
      else if x.state = .checking then completionTest l v (evaluateRead v e r (keepRead v p r (popHead l s)))
      else unexpected l f s
    | none => unexpected l f s
  | none => unexpected l f s

/-- A FIND applied: judged by its sweep number and request, then counted and judged by the rules; the completion test follows (R114,
R115, R54). -/
def findApplied (l : LaneId) (f : LaneFrame) (n : BitVec 16) (g : Finding) (s : State) : State :=
  match (s.lane l).sweep.classify n with
  | .applies =>
    if (s.lane l).sweep.requested g then testBound l (applyFinding l g (popHead l s)) else unexpected l f s
  | .stale => recordLane l .stale f.wire (popHead l s)
  | .unexpected => unexpected l f s

/-- A SWEEP_END applied: judged by its sweep number, it ends the sweep, and the completion test follows (R114, R116, R54). -/
def sweepEndApplied (l : LaneId) (f : LaneFrame) (n : BitVec 16) (st : SweepStatus) (count : Nat) (s : State) : State :=
  match (s.lane l).sweep.classify n with
  | .applies => testBound l (endSweep l st count (popHead l s))
  | .stale => recordLane l .stale f.wire (popHead l s)
  | .unexpected => unexpected l f s

/-- CLEAR at the barrier: LOWER, and T2 captured and stopped (R61). -/
def clearBarrier (l : LaneId) (v : VisitIx) (s : State) : State :=
  let t := s.modVisit v fun x => { x with t2Clear := (s.lane l).lcu.t2 }
  (lowerBarrier l t).modLcu l fun u => { u with t2 := none }

/-- What a CLEAR does by the visit's verdict: bookings settled and pins released with the visit closed, or REFERRED (R61). -/
def settleClear (v : VisitIx) (x : Visit) (s : State) : State :=
  match x.verdict with
  | some .admitted => closeVisit v .admitted (releasePins x (advanceBookings x s))
  | some .reject => closeVisit v .rejected (releasePins x (restoreBookings x s))
  | some .refer => setVisitState v .referred s
  | none => s

/-- A CLEAR applied to a visit in DIRECTED ends its time at the barrier and releases its lane; else UNEXPECTED (R61, R52, R30). -/
def clearApplied (l : LaneId) (f : LaneFrame) (s : State) : State :=
  match s.bound l with
  | some (v, x) =>
    if x.state = .directed then
      drainRelease l (settleClear v x (releaseLane l v (clearBarrier l v (popHead l s))))
    else unexpected l f s
  | none => unexpected l f s

/-! ### The head, whatever its class -/

/-- A frame at the head applied by its class (R52). -/
def applyFrame (l : LaneId) (f : LaneFrame) (c : InFrame) (s : State) : State :=
  match c with
  | .arrive load => arriveApplied l f load s
  | .plate conf t => plateApplied l f conf t s
  | .card t => cardApplied l f t s
  | .code p conf t => codeApplied l f p conf t s
  | .closure p src tag conf n => closureApplied l f p { sealNo := n, source := src, tagState := tag, confidence := conf } s
  | .find n p panel _ d sv ex => findApplied l f n { position := p, panel := panel, defect := d, severity := sv, extent := ex } s
  | .sweepEnd n st k => sweepEndApplied l f n st k s
  | .clear => clearApplied l f s

/-- The head frame applied, where it is of the class a command names (log 1). -/
def applyHead (l : LaneId) (isClass : InFrame → Bool) (s : State) : State :=
  if s.mayApply l then
    match s.head l with
    | some (f, c) => if isClass c then applyFrame l f c s else s
    | none => s
  else s

/-- Heads applied in turn while they may be, as RESUME_LANE has it; each leaves the queue or parks the lane (R29, R40), and what its
application produced is offered to the free transmitters before the next head is considered (R18, R29, log 6). -/
def applyHeads (l : LaneId) : Nat → State → State
  | 0, s => s
  | fuel + 1, s =>
    if s.mayApply l then
      match s.head l with
      | some (f, c) => applyHeads l fuel (transmitLanes (applyFrame l f c s))
      | none => s
    else s

end Sys2Proof.Machine
end

