-- ==== Sys2Proof/Machine/LaneRequests.lean ====
section
/-! DEFINITION. The requests of the Lane Control Units (chapter 2): OPEN_LANE to ASSIGN_PROFILE, with HOLD_LANE. -/

namespace Sys2Proof.Machine

/-- The open mode of a direction. -/
def openMode : Dir → LaneMode
  | .inGate => .openIn
  | .outGate => .openOut

/-- The lane's mode and target take values, and LANE_MODE is raised. -/
def enterMode (l : LaneId) (m : LaneMode) (target : Option LaneMode) (s : State) : State :=
  raiseEvent .laneMode (lanePort l) (s.modLcu l fun u => { u with mode := m, target := target })

/-- A closed lane begins its warm-up: WARMING, the ready set emptied, WAKE produced, T3 started, LANE_MODE raised, and the completion
test made once (R23). -/
def startWarming (l : LaneId) (d : Dir) (s : State) : State :=
  let t := enterMode l .warming (some (openMode d)) s
  let t := t.modLcu l fun u => { u with ready := 0, t3 := some (s.profileOf l).warmup }
  warmTest l (produceWake l t)

/-- OPEN_LANE (R23). -/
def reqOpenLane (n : Nat) (d : Dir) (s : State) : Answer × State :=
  withLane n (fun l s =>
    match (s.lane l).lcu.mode with
    | .closed => applied [] (startWarming l d s)
    | .draining => refusedWith .busy s
    | .warming | .openIn | .openOut => refusedWith .state s) s

/-- SET_DIRECTION on an open lane: no change, drain, BUSY while parked, or turn at once (R26). -/
def turnLane (l : LaneId) (d : Dir) (s : State) : Answer × State :=
  if (s.lane l).lcu.mode = openMode d then applied [] s
  else if (s.bound l).isSome then applied [] (enterMode l .draining (some (openMode d)) s)
  else if s.isParked l then refusedWith .busy s
  else applied [] (enterMode l (openMode d) (s.lane l).lcu.target s)

/-- SET_DIRECTION (R26). -/
def reqSetDirection (n : Nat) (d : Dir) (s : State) : Answer × State :=
  withLane n (fun l s =>
    match (s.lane l).lcu.mode with
    | .draining => refusedWith .busy s
    | .closed | .warming => refusedWith .state s
    | .openIn | .openOut => turnLane l d s) s

/-- CLOSE_LANE (R27). -/
def reqCloseLane (n : Nat) (s : State) : Answer × State :=
  withLane n (fun l s =>
    match (s.lane l).lcu.mode with
    | .draining => refusedWith .busy s
    | .closed => applied [] s
    | .warming => applied [] (enterClosed l s)
    | .openIn | .openOut =>
      if (s.bound l).isSome then applied [] (enterMode l .draining (some .closed) s) else applied [] (enterClosed l s)) s

/-- HOLD_LANE (R33a). -/
def reqHoldLane (n : Nat) (s : State) : Answer × State :=
  withLane n (fun l s =>
    if modeHoldable (s.lane l).lcu.mode then applied [] (addCause l .operator s) else refusedWith .state s) s

/-- The bound visit is DIRECTED and the barrier state is DOWN: a stalled barrier to raise again (R39, R40). -/
def State.stalled (s : State) (l : LaneId) : Bool :=
  (match s.bound l with | some (_, x) => x.state == .directed | none => false) && (s.lane l).lcu.barrier == .down

/-- The head frame stepped: applied, but an ARRIVE that would need a visit record when none is free (R39). -/
def stepFrame (l : LaneId) (s : State) : StepResult × State :=
  if s.mayTake l then
    match s.head l with
    | some (f, c) =>
      match c, s.bound l, s.freeRecord with
      | .arrive _, none, none => (.nothing, s)
      | _, _, _ => (.frame, applyFrame l f c s)
    | none => (.nothing, s)
  else (.nothing, s)

/-- One action of STEP_LANE: the first case that applies (R39). -/
def stepAction (l : LaneId) (s : State) : StepResult × State :=
  if (s.lane l).lcu.pendingDir then (.direction, showDirection l s)
  else if s.stalled l then (.barrier, raiseBarrier l s)
  else stepFrame l s

/-- STEP_LANE (R39). -/
def reqStepLane (n : Nat) (s : State) : Answer × State :=
  withLane n (fun l s =>
    if s.held l then
      let (r, t) := stepAction l s
      applied (num 1 r.toCode) t
    else refusedWith .state s) s

/-- The hold lifted: the causes emptied, a pending direction shown or a stalled barrier raised (R40, step 1); T0, T1 and the sign-ACK
timer resume by the empty set (R40, step 2). -/
def liftHold (l : LaneId) (s : State) : State :=
  let t := s.modLcu l fun u => { u with holds := 0 }
  if (s.lane l).lcu.pendingDir then showDirection l t
  else if s.stalled l then raiseBarrier l t
  else t

/-- RESUME_LANE: the hold lifted, then frames applied from the head under R29 (R40). What the lifting produced is offered to the free
transmitters before the first head is considered, so a RAISE goes out before the LOWER of a CLEAR that follows it (R18, log 6). -/
def reqResumeLane (n : Nat) (s : State) : Answer × State :=
  withLane n (fun l s =>
    if s.held l then
      let t := transmitLanes (liftHold l s)
      applied [] (applyHeads l (t.lane l).port.queue.length t)
    else refusedWith .state s) s

/-! ### RESET_LANE (R43, R68, R22, R129) -/

/-- A lane port's part of RESET_LANE and RESTART: queue and holding places emptied, the sign wait ended, the collision flag cleared,
the last inbound sequence absent (R22). -/
def Port.clear (p : Port) : Port :=
  { p with
    lastIn := none
    queue := []
    hpBarrier := none
    hpShow := none
    hpSweep := none
    hpReread := none
    hpWake := false
    signWait := none
    signTimer := none
    collision := false }

/-- A lane control unit after RESET_LANE and RESTART: CLOSED, with nothing but its profile assignment kept (R43, R44). -/
def Lcu.clear (u : Lcu) : Lcu := { Lcu.reset with profile := u.profile }

/-- A sweep state after RESET_LANE and RESTART: IDLE, a running sweep STOPPED, its fields discarded, the numbers kept (R129). -/
def Sweep.clear (w : Sweep) : Sweep :=
  { w with phase := .idle, lastEnd := (match w.phase with | .running => some .stopped | .idle => w.lastEnd), info := none }

/-- The outstanding outcomes of a cancelled visit: NOT_CHECKED, and INCOMPLETE with its sweep running, NOT_SWEPT otherwise (R68, step 1). -/
def abandonOutcomes (sweeping : Bool) (x : Visit) : Visit :=
  { x with
    carried := x.carried.map fun e => settleDamage (if sweeping then .incomplete else .notSwept) (abandonClosure e) }

/-- The bound visit of a lane being reset is cancelled (R68, R155). -/
def cancelBound (l : LaneId) (v : VisitIx) (x : Visit) (s : State) : State :=
  let t := s.modVisit v (abandonOutcomes (s.sweeping l))
  let t := releaseBay v (leaveBayWait v (releasePins x (restoreBookings x t)))
  let t := (releaseLane l v t).modLcu l fun u => { u with t2 := none }
  resolvedNotice x (closeVisit v .cancelled t)

/-- A lane returned to CLOSED: its port and control unit cleared, a STOP for a running sweep, a blank SHOW and a LOWER (R22, R43, R129). -/
def clearLane (l : LaneId) (s : State) : State :=
  let t := leaveParked l (s.modPort l Port.clear)
  let t := (stopSweep l t).modSweep l Sweep.clear
  let t := lowerBarrier l (produceShow l blankShow t)
  t.modLane l fun x => { x with lcu := x.lcu.clear, dirRef := none }

/-- RESET_LANE (R43). -/
def reqResetLane (n : Nat) (s : State) : Answer × State :=
  withLane n (fun l s =>
    let t := match s.bound l with
      | some (v, x) => cancelBound l v x s
      | none => s
    let t := clearLane l t
    applied [] (if (s.lane l).lcu.mode = .closed then t else raiseEvent .laneMode (lanePort l) t)) s

/-! ### READ_LANE (R21, R42) -/

/-- The occupancy of the five holding places as a set in the order BARRIER, SHOW, SWEEP/STOP, REREAD, WAKE (R21, log 9). -/
def Port.occupancy (p : Port) : BitVec 8 :=
  (if p.hpBarrier.isSome then 1 else 0) ||| (if p.hpShow.isSome then 2 else 0) ||| (if p.hpSweep.isSome then 4 else 0)
    ||| (if p.hpReread.isSome then 8 else 0) ||| (if p.hpWake then 16 else 0)

/-- The port part of the READ_LANE reply (R21). -/
def Port.encode (p : Port) : List Byte :=
  num 1 p.line.toCode ++ optBytes (fun b => [b]) p.lastIn ++ num 1 p.queue.length ++ maskBytes p.occupancy ++ [p.outSeq]
    ++ optBytes (fun (w : SignWait) => [w.seq]) p.signWait ++ flagByte p.collision
    ++ optBytes (fun (b : BarrierPos) => num 1 b.toCode) p.reported

/-- A timer as READ_LANE gives it: its state, then its count where it is not stopped (R42, log 9). -/
def timerBytes (held : Bool) : Option Nat → List Byte
  | none => num 1 (TimerState.toCode .stopped)
  | some n => num 1 (TimerState.toCode (if held then .paused else .running)) ++ num 2 n

/-- T0 as READ_LANE gives it: with its window kind after its count (R42). -/
def t0Bytes (held : Bool) : Option (Nat × WindowKind) → List Byte
  | none => timerBytes held none
  | some (n, k) => timerBytes held (some n) ++ num 1 k.toCode

/-- The lane part of the READ_LANE reply (R42). -/
def State.laneBytes (s : State) (l : LaneId) : List Byte :=
  let u := (s.lane l).lcu
  num 1 u.mode.toCode ++ optBytes (fun (m : LaneMode) => num 1 m.toCode) u.target ++ num 1 u.profile.val ++ maskBytes u.ready
    ++ maskBytes u.holds ++ flagByte u.pendingDir ++ num 1 u.audit ++ num 1 u.barrier.toCode
    ++ optBytes (num 2) (s.boundNumber l) ++ flagByte (s.isParked l)
    ++ t0Bytes u.isHeld u.t0 ++ timerBytes u.isHeld u.t1 ++ timerBytes false u.t3 ++ timerBytes false u.t2

/-- READ_LANE: the port part and the lane part, and the sign-collision flag cleared after (R21, R42). -/
def reqReadLane (n : Nat) (s : State) : Answer × State :=
  withLane n (fun l s =>
    applied ((s.lane l).port.encode ++ s.laneBytes l) (s.modPort l fun p => { p with collision := false })) s

/-! ### Profiles (R31, R32) -/

/-- The completion test of every lane assigned a profile; it changes only those in WARMING (R24, R31). -/
def warmTests (i : Fin 8) (s : State) : State :=
  allLanes.foldl (fun s l => if (s.lane l).lcu.profile = i then warmTest l s else s) s

/-- WRITE_PROFILE (R31). -/
def reqWriteProfile (i : Nat) (p : Profile) (s : State) : Answer × State :=
  if h : i < 8 ∧ profileOk p then applied [] (warmTests ⟨i, h.1⟩ { s with profiles := s.profiles.set i p h.1 })
  else refusedWith .badValue s

/-- READ_PROFILE (R31). -/
def reqReadProfile (i : Nat) (s : State) : Answer × State :=
  if h : i < 8 then applied (s.profiles.get ⟨i, h⟩).encode s else refusedWith .badValue s

/-- ASSIGN_PROFILE (R32). -/
def reqAssignProfile (n i : Nat) (s : State) : Answer × State :=
  withLane n (fun l s =>
    if h : i < 8 then
      if (s.lane l).lcu.mode = .closed then applied [] (s.modLcu l fun u => { u with profile := ⟨i, h⟩ })
      else refusedWith .state s
    else refusedWith .badValue s) s

end Sys2Proof.Machine
end

