-- ==== Sys2Proof/Machine/Records.lean ====
section
/-! DEFINITION. Visit records and Gate Transaction Records as bytes (11.3, R65, R160), and the requests of the Visit Engine (chapter 3). -/

namespace Sys2Proof.Machine

/-! ### Layouts -/

/-- A reference of 4 bytes. -/
def refBytes (r : Nat) : List Byte := num 4 r

/-- A carried entry of a Gate Transaction Record as bytes (11.3). -/
def CarriedRecord.encode (e : CarriedRecord) : List Byte :=
  num 1 e.position.toCode ++ e.code ++ optBytes refBytes e.booking ++ num 1 e.closure.toCode ++ num 1 e.damage.toCode
    ++ maskBytes e.fired ++ num 2 e.findings ++ optBytes (num 1) e.worst ++ optBytes (num 1) e.reslot

/-- A Gate Transaction Record as bytes (11.3). -/
def GateRecord.encode (r : GateRecord) : List Byte :=
  num 2 r.number ++ num 1 r.lane.val ++ num 1 r.dir.toCode ++ num 1 r.outcome.toCode ++ optBytes textBytes r.plate
    ++ optBytes textBytes r.card ++ listOf CarriedRecord.encode r.carried ++ listOf refBytes r.picks ++ maskBytes r.reasons
    ++ optBytes (num 3) r.arrival ++ optBytes (num 2) r.t2Verdict ++ optBytes (num 2) r.t2Clear ++ optBytes (num 1) r.bay
    ++ maskBytes r.holdsSeen ++ flagByte r.undirected

/-- A closure read as READ_VISIT gives it: seal number, source, tag state, confidence (R65, R111, log 9). -/
def ClosureRead.encode (r : ClosureRead) : List Byte :=
  textBytes r.sealNo ++ num 1 r.source.toCode ++ optBytes (fun (t : TagState) => num 1 t.toCode) r.tagState ++ num 1 r.confidence

/-- A carried entry whole, its booking index given as a reference (R65, section 3.1, log 9). -/
def State.carriedBytes (s : State) (e : Carried) : List Byte :=
  num 1 e.position.toCode ++ e.code ++ num 1 e.confidence ++ flagByte e.codeValid ++ optBytes refBytes (e.booking.bind s.refOf)
    ++ optBytes (fun (c : ClosureReq) => num 1 c.toCode) e.closureReq ++ optBytes (num 2) e.closureIx
    ++ listOf ClosureRead.encode e.reads ++ num 1 e.closure.toCode ++ num 1 e.damage.toCode ++ maskBytes e.fired
    ++ num 2 e.findings ++ optBytes (num 1) e.worst ++ optBytes (num 1) e.reslot
    ++ optBytes (fun (k : HoldKind) => num 1 k.toCode) e.holdKind

/-- The pending-direction flag of a visit: its lane's while it is bound (section 3.1, R38, log 14). -/
def State.visitPending (s : State) (x : Visit) : Bool :=
  match x.lane with
  | some l => (s.lane l).lcu.pendingDir
  | none => false

/-- The full read of an open visit: the fields of section 3.1 in its order (R65, log 9). -/
def State.visitBytes (s : State) (x : Visit) : List Byte :=
  num 2 x.number ++ num 1 x.state.toCode ++ optBytes (fun (l : LaneId) => num 1 l.val) x.lane ++ num 1 x.grantLane.val
    ++ num 1 x.dir.toCode ++ num 1 x.load.toCode ++ optBytes (num 3) x.arrival
    ++ optBytes (fun (p : Text × Nat) => textBytes p.1 ++ num 1 p.2) x.plate ++ optBytes textBytes x.card
    ++ listOf s.carriedBytes x.carried ++ listOf refBytes (x.picks.filterMap s.refOf) ++ maskBytes x.reasons
    ++ optBytes (fun (v : Verdict) => num 1 v.toCode) x.verdict ++ optBytes (num 1) x.bay ++ optBytes (num 1) x.lastBay
    ++ flagByte (s.visitPending x) ++ flagByte x.barrierDown ++ maskBytes x.holdsSeen ++ flagByte x.rereaded
    ++ flagByte x.undirected ++ optBytes (num 2) x.t2Verdict ++ optBytes (num 2) x.t2Clear ++ optBytes GateRecord.encode x.record

/-- A carried entry of the authority's restricted read (R160, log 9). -/
def Carried.restrictedBytes (e : Carried) : List Byte :=
  num 1 e.position.toCode ++ e.code ++ optBytes (fun (k : HoldKind) => num 1 k.toCode) e.holdKind ++ num 1 e.closure.toCode
    ++ listOf (fun r => textBytes r.sealNo ++ num 1 r.source.toCode ++ optBytes (fun (t : TagState) => num 1 t.toCode) r.tagState)
        e.reads
    ++ num 1 e.damage.toCode ++ maskBytes e.fired ++ num 2 e.findings ++ optBytes (num 1) e.worst

/-- The authority's restricted read of a visit (R160, log 9). -/
def Visit.restrictedBytes (x : Visit) : List Byte :=
  num 2 x.number ++ num 1 x.state.toCode ++ num 1 x.dir.toCode ++ num 1 x.load.toCode
    ++ optBytes (fun (l : LaneId) => num 1 l.val) x.lane ++ optBytes (num 3) x.arrival
    ++ optBytes (fun (p : Text × Nat) => textBytes p.1) x.plate ++ optBytes (fun (v : Verdict) => num 1 v.toCode) x.verdict
    ++ optBytes (num 1) x.bay ++ optBytes (fun (r : GateRecord) => num 1 r.outcome.toCode) x.record
    ++ listOf Carried.restrictedBytes x.carried

/-! ### Overriding and settling (R62, R63, R64) -/

/-- The outstanding checks abandoned by SET_VERDICT: T0 and a running sweep stopped, closures NOT_CHECKED, damage INCOMPLETE (R64, step 1). -/
def abandonChecks (l : LaneId) (v : VisitIx) (s : State) : State :=
  (stopSweep l (stopT0 l s)).modVisit v fun x =>
    { x with carried := x.carried.map fun e => settleDamage .incomplete (abandonClosure e) }

/-- SET_VERDICT's bays: away from REFER the bay or the Bay Wait Queue place is given up; with REFER one of them is kept, or a bay is
claimed, or the visit joins the queue (R64, step 3). -/
def overrideBay (l : LaneId) (v : VisitIx) (x : Visit) (vd : Verdict) (s : State) : State :=
  if vd = .refer then
    if x.bay.isSome || s.bayWait.contains v then s
    else
      match claimBay v s with
      | (true, t) => t
      | (false, t) => joinBayWait l v t
  else releaseBay v (leaveBayWait v s)

/-- A BARRIER LOWER where the lane's barrier state is UP (R64, R153). -/
def lowerIfUp (l : LaneId) (s : State) : State := if (s.lane l).lcu.barrier = .up then lowerBarrier l s else s

/-- SET_VERDICT's direction: WAITING_BAY with the flag cleared and a wait text, or DIRECTED with its direction pending (R64, step 5). -/
def overrideDirection (l : LaneId) (v : VisitIx) (s : State) : State :=
  if s.bayWait.contains v then waitText l (setPendingFlag l false (setVisitState v .waitingBay s))
  else makePending l (setVisitState v .directed s)

/-- SET_VERDICT taken, its steps in order (R64). -/
def overrideVisit (l : LaneId) (v : VisitIx) (x : Visit) (vd : Verdict) (s : State) : State :=
  let t := if x.state = .checking then abandonChecks l v s else s
  let t := writeVerdict l v vd (t.addReason v .operator)
  let t := lowerIfUp l (overrideBay l v x vd t)
  let t := overrideDirection l v t
  onVisit v (fun y s => appendBound .override vd l y s) t

/-- SET_VERDICT (R64). -/
def reqSetVerdict (n : Nat) (vd : Verdict) (s : State) : Answer × State :=
  withLane n (fun l s =>
    if !s.held l then refusedWith .state s
    else
      match s.bound l with
      | none => refusedWith .state s
      | some (v, x) =>
        if x.state = .identifying then refusedWith .state s
        else if x.hasReason .authHold && vd != .refer then refusedWith .denied s
        else applied [] (overrideVisit l v x vd s)) s

/-- A carried container of the visit has a standing Hold List entry (R148). -/
def State.standingHold (s : State) (x : Visit) : Bool := x.carried.any fun e => (s.holdOf e.code).isSome

/-- A REFERRED visit settled: bookings advanced or restored, pins and bay released, the visit closed, and HELD_RESOLVED with AUTH_HOLD
(R62, R63, R155). -/
def settleReferred (v : VisitIx) (x : Visit) (o : CloseOutcome) (s : State) : State :=
  let t := if o = .referredAdmitted then advanceBookings x s else restoreBookings x s
  resolvedNotice x (closeVisit v o (releaseBay v (releasePins x t)))

/-- RESOLVE (R62). -/
def reqResolve (n : Nat) (o : Verdict) (s : State) : Answer × State :=
  if o = .refer then refusedWith .badValue s
  else
    withVisit n (fun v x s =>
      if x.state ≠ .referred then refusedWith .state s
      else if o = .admitted ∧ s.standingHold x then refusedWith .denied s
      else
        applied []
          (settleReferred v x (if o = .admitted then .referredAdmitted else .referredRejected) (appendTrail .resolve o x s))) s

/-- CANCEL_VISIT (R63). -/
def reqCancelVisit (n : Nat) (s : State) : Answer × State :=
  withVisit n (fun v x s =>
    if x.state = .referred then applied [] (settleReferred v x .cancelled s) else refusedWith .state s) s

/-- READ_VISIT from the terminal: by number or by index; a FREE record gives its state alone (R65). -/
def reqReadVisit (sel : VisitSel) (s : State) : Answer × State :=
  match sel with
  | .number n => withVisit n (fun _ x s => applied (s.visitBytes x) s) s
  | .index i =>
    match visitIxOf i with
    | some v =>
      match s.visit v with
      | some x => applied (s.visitBytes x) s
      | none => applied (num 1 (VisitState.toCode .free)) s
    | none => refusedWith .badValue s

/-- Some bay numbered at or above `k` is held (R60). -/
def State.bayHeldFrom (s : State) (k : Nat) : Bool :=
  allVisits.any fun v => match (s.visit v).bind (·.bay) with | some b => k ≤ b | none => false

/-- SET_BAYS (R60). -/
def reqSetBays (k : Nat) (s : State) : Answer × State :=
  if inRange 1 16 k then
    if s.bayHeldFrom k then refusedWith .inUse s else applied [] (grantFreeBays { s with bayCount := k })
  else refusedWith .badValue s

/-- WRITE_POLICY: AUTH_HOLD and OPERATOR have no class to write (R55). -/
def reqWritePolicy (r : Reason) (c : PolicyClass) (s : State) : Answer × State :=
  if h : r.toCode < 19 then applied [] { s with policy := s.policy.set r.toCode c h } else refusedWith .badValue s

/-- READ_POLICY: the class of every writable reason (R55), in the order of their codes (log 9: the rule names no order). -/
def reqReadPolicy (s : State) : Answer × State := applied (s.policy.toList.flatMap fun c => num 1 c.toCode) s

end Sys2Proof.Machine
end

