-- ==== Sys2Proof/Machine/Authority.lean ====
section
/-! DEFINITION. The Authority Domain Unit (chapter 8): the Hold List and what a hold does to open visits, notice words, message slots,
and the restricted visit read. -/

namespace Sys2Proof.Machine

/-! ### Holds and visits (R152, R153) -/

/-- The hold kind of every carried entry with a code (R152). -/
def Visit.recordKind (c : Text) (k : HoldKind) (x : Visit) : Visit :=
  { x with carried := x.carried.map fun e => if e.code = c then { e with holdKind := some k } else e }

/-- A redirect's bay and what follows its trail entry: with a bay, the direction shown or pending; without, nothing more (R153). -/
def redirectDirection (l : LaneId) (claimed : Bool) (s : State) : State :=
  if claimed then (if s.held l then makePending l s else showDirection l s) else s

/-- A redirect: the verdict REFER, LOWER where the barrier is up, a bay claimed or the Bay Wait Queue joined with the pending flag
cleared, the trail entry, and the direction (R153). The LOWER of step 2 is offered to a free transmitter before step 5 can produce a
RAISE, so that the barrier comes down (R18, log 6). -/
def redirect (l : LaneId) (v : VisitIx) (s : State) : State :=
  let t := transmitLanes (lowerIfUp l (s.modVisit v fun x => { x with verdict := some .refer }))
  let (claimed, t) := claimBay v t
  let t := if claimed then t else setPendingFlag l false (joinBayWait l v t)
  redirectDirection l claimed (onVisit v (fun x s => appendBound .redirect .refer l x s) t)

/-- The further effect of a hold on a visit with AUTH_HOLD recorded, by its state (R152). -/
def holdEffect (v : VisitIx) (x : Visit) (s : State) : State :=
  match x.state, x.lane with
  | .identifying, _ | .checking, _ | .waitingBay, _ => raiseAuthority heldArrived s
  | .directed, some l =>
    raiseAuthority heldArrived (if x.verdict = some .refer then s else redirect l v s)
  | _, _ => s

/-- A hold acts on one open visit that carries its code, by the visit's state (R152). -/
def applyHold (c : Text) (k : HoldKind) (v : VisitIx) (x : Visit) (s : State) : State :=
  if x.state = .closing then raiseAuthority heldPassed s
  else holdEffect v x (s.modVisit v fun y => (y.recordKind c k).addReason .authHold)

/-- The visit carries a code. -/
def Visit.carries (c : Text) (x : Visit) : Bool := x.carried.any fun e => e.code == c

/-- A hold applied to one record, which joins the matched list where the hold reached it (R149). -/
def holdVisit (c : Text) (k : HoldKind) (acc : List VisitIx × State) (v : VisitIx) : List VisitIx × State :=
  match acc.2.visit v with
  | some x => if x.carries c then (acc.1 ++ [v], applyHold c k v x acc.2) else acc
  | none => acc

/-- A hold applied to every open visit with its code, in ascending Visit Table index (R149). -/
def holdVisits (c : Text) (k : HoldKind) (s : State) : List VisitIx × State := allVisits.foldl (holdVisit c k) ([], s)

/-- A member of the matched list: visit number and state, as the visit then is (R149). -/
def State.matchedBytes (s : State) (v : VisitIx) : List Byte :=
  match s.visit v with
  | some x => num 2 x.number ++ num 1 x.state.toCode
  | none => []

/-- A hold entered in the list: HOLD_CHANGE, its visits, and the reply's result, index and matched list (R148, R149). -/
def placeHold (r : LoadResult) (i : Nat) (c : Text) (k : HoldKind) (s : State) : Answer × State :=
  let (vs, t) := holdVisits c k (raiseEvent .holdChange 0 s)
  applied (num 1 r.toCode ++ num 2 i ++ listOf t.matchedBytes vs) t

/-- ADD_HOLD from the authority (R149). -/
def reqAddHold (c : Text) (k : HoldKind) (ref : Nat) (s : State) : Answer × State :=
  if codeValid c && inRange 0 4294967295 ref then
    match s.holdOf c with
    | some (i, _) =>
      placeHold .replaced i c k { s with holdList := Table.modify s.holdList i fun h => { h with kind := k, ref := ref } }
    | none =>
      if s.holdList.length < Config.holdPlaces then
        let i := Table.firstFree s.holdList
        placeHold .added i c k
          { s with holdList := Table.put s.holdList i { code := c, kind := k, ref := ref, placed := s.minute } }
      else refusedWith .full s
  else refusedWith .badValue s

/-- REMOVE_HOLD from the authority (R150). -/
def reqRemoveHold (c : Text) (s : State) : Answer × State :=
  if codeForm c then
    match s.holdOf c with
    | some (i, _) => applied [] (raiseEvent .holdChange 0 { s with holdList := Table.remove s.holdList i })
    | none => refusedWith .notFound s
  else refusedWith .badValue s

/-- A Hold List entry as bytes, with its index (R150, log 9). -/
def holdBytes (i : Nat) (h : HoldEntry) : List Byte :=
  num 2 i ++ h.code ++ num 1 h.kind.toCode ++ refBytes h.ref ++ optBytes (num 3) h.placed

/-- The reply of READ_HOLD for a place: the entry or the mark *empty*, then the number of occupied places (R150). -/
def State.holdReply (s : State) (i : Nat) : List Byte :=
  optBytes (holdBytes i) (Table.lookup s.holdList i) ++ num 2 s.holdList.length

/-- READ_HOLD (R150). -/
def reqReadHold (sel : HoldSel) (s : State) : Answer × State :=
  match sel with
  | .code c =>
    if codeForm c then
      match s.holdOf c with
      | some (i, _) => applied (s.holdReply i) s
      | none => refusedWith .notFound s
    else refusedWith .badValue s
  | .index i => if i < Config.holdPlaces then applied (s.holdReply i) s else refusedWith .badValue s

/-! ### The restricted visit read (R160) -/

/-- The authority's view of a visit, DENIED where no carried code has a standing hold (R160). -/
def State.authorityView (s : State) : Option Visit → Answer × State
  | some x => if s.standingHold x then applied x.restrictedBytes s else refusedWith .denied s
  | none => refusedWith .denied s

/-- READ_VISIT from the authority (R160). -/
def reqAuthReadVisit (sel : VisitSel) (s : State) : Answer × State :=
  match sel with
  | .number n =>
    if visitNumberOk n then s.authorityView ((s.visitNumbered n).map (·.2)) else refusedWith .badValue s
  | .index i =>
    match visitIxOf i with
    | some v => s.authorityView (s.visit v)
    | none => refusedWith .badValue s

/-! ### Notice words (R156) -/

/-- The word and mask of a link's owner. -/
def State.notice (s : State) : Link → BitVec 16 × BitVec 16
  | .terminal => (s.termWord, s.termMask)
  | .authority => (s.authWord, s.authMask)

/-- The word and mask of a link's owner take new values, and the owner is told where flags came to present (R157). -/
def setNotice (k : Link) (word mask : BitVec 16) (s : State) : State :=
  match k with
  | .terminal => setTermNotice word mask s
  | .authority => setAuthNotice word mask s

/-- A notice request answered with the word and mask after it (R156). -/
def noticeReply (k : Link) (s : State) : Answer × State := applied (maskBytes (s.notice k).1 ++ maskBytes (s.notice k).2) s

/-- The other link. -/
def otherLink : Link → Link
  | .terminal => .authority
  | .authority => .terminal

/-- RAISE_NOTICE: flags set in the other party's word; the terminal may not raise the part's flags 0 to 2 (R156). -/
def reqRaiseNotice (k : Link) (flags : BitVec 16) (s : State) : Answer × State :=
  if k = .terminal ∧ flags &&& 7#16 ≠ 0 then refusedWith .badValue s
  else
    let o := otherLink k
    noticeReply o (setNotice o ((s.notice o).1 ||| flags) (s.notice o).2 s)

/-- CLEAR_NOTICE: flags cleared in the sender's own word (R156). -/
def reqClearNotice (k : Link) (flags : BitVec 16) (s : State) : Answer × State :=
  noticeReply k (setNotice k ((s.notice k).1 &&& ~~~flags) (s.notice k).2 s)

/-- MASK_NOTICE: mask flags of the sender's own word set (R156). -/
def reqMaskNotice (k : Link) (flags : BitVec 16) (s : State) : Answer × State :=
  noticeReply k (setNotice k (s.notice k).1 ((s.notice k).2 ||| flags) s)

/-- UNMASK_NOTICE: mask flags of the sender's own word cleared (R156, R157). -/
def reqUnmaskNotice (k : Link) (flags : BitVec 16) (s : State) : Answer × State :=
  noticeReply k (setNotice k (s.notice k).1 ((s.notice k).2 &&& ~~~flags) s)

/-- READ_NOTICE (R156). -/
def reqReadNotice (k : Link) (s : State) : Answer × State := noticeReply k s

/-! ### Message slots (R159) -/

/-- WRITE_SLOT (R159). -/
def reqWriteSlot (i : Nat) (bytes : List Byte) (s : State) : Answer × State :=
  if h : i < 8 ∧ bytes.length = 32 then applied [] { s with slots := s.slots.set i bytes h.1 } else refusedWith .badValue s

/-- READ_SLOT (R159). -/
def reqReadSlot (i : Nat) (s : State) : Answer × State :=
  if h : i < 8 then applied (s.slots.get ⟨i, h⟩) s else refusedWith .badValue s

end Sys2Proof.Machine
end

