-- ==== Sys2Proof/Machine/Reception.lean ====
section
/-! DEFINITION. Lane Port Units' receiving side (chapter 1), line changes, the acknowledgements, and the expiries of the lane timers
T1, T3 and sign-ACK (R20, R25, R35). Each effect here is followed by the transmitters' choice in Serving.lean. -/

namespace Sys2Proof.Machine

/-! ### Taking a frame (R7 to R11, R14, R15) -/

/-- The sequence check: a gap is recorded, and the last inbound sequence takes the frame's (R7). -/
def checkSequence (l : LaneId) (f : LaneFrame) (s : State) : State :=
  let t := match (s.lane l).port.lastIn with
    | some n => if f.seq = n + 1 then s else recordLane l .seqGap f.wire s
    | none => s
  t.modPort l fun p => { p with lastIn := some f.seq }

/-- A visit-bearing frame taken: discarded in CLOSED, lost to a full queue, or put at its tail (R10, R11). -/
def enqueueFrame (l : LaneId) (f : LaneFrame) (s : State) : State :=
  if (s.lane l).lcu.mode = .closed then recordLane l .unexpected f.wire s
  else if (s.lane l).port.queue.length < Config.receiveQueueSize then s.modPort l fun p => { p with queue := p.queue ++ [f] }
  else recordLane l .rxOverflow f.wire s

/-- The sign wait ends and the sign-ACK timer stops (R15, R20). -/
def endSignWait (l : LaneId) (s : State) : State := s.modPort l fun p => { p with signWait := none, signTimer := none }

/-- An ACK of the sign: it ends the sign wait it names and hands on the SHOW's trail mark, or is UNEXPECTED (R15, R140). -/
def takeAckSign (l : LaneId) (f : LaneFrame) (echo : Byte) (s : State) : State :=
  match (s.lane l).port.signWait with
  | some w =>
    if w.seq = echo then
      match w.shown.mark with
      | some m => handMark l m (endSignWait l s)
      | none => endSignWait l s
    else recordLane l .unexpected f.wire s
  | none => recordLane l .unexpected f.wire s

/-- An ACK of the barrier: it gives the reported position where it echoes the last barrier sequence, or is UNEXPECTED (R15). -/
def takeAckBarrier (l : LaneId) (f : LaneFrame) (echo : Byte) (pos : BarrierPos) (s : State) : State :=
  if (s.lane l).port.lastBarrierSeq = some echo then s.modPort l fun p => { p with reported := some pos }
  else recordLane l .unexpected f.wire s

/-- A frame whose sequence was checked, by its class and contents (R8, R9, R10). -/
def routeFrame (l : LaneId) (f : LaneFrame) (s : State) : State :=
  match f.content with
  | .unknownClass => recordLane l .unknownClass f.wire s
  | .malformed => recordLane l .malformed f.wire s
  | .visit _ => enqueueFrame l f s
  | .ready k => addReady l k s
  | .ackSign e => takeAckSign l f e s
  | .ackBarrier e p => takeAckBarrier l f e p s

/-- A frame whose CRC agrees: the sequence check, then the class and content checks (R7, R8, R9); of two occurrences of one
frame the gap is recorded first (log 20). -/
def takeFrame (l : LaneId) (f : LaneFrame) (s : State) : State := routeFrame l f (checkSequence l f s)

/-! ### Framing (R5, R6) -/

/-- What the receiver makes of one more byte. -/
inductive Received where
  /-- the frame being received so far; none in HUNTING -/
  | more (rx : List Byte)
  /-- the frame ended as MALFORMED by its length -/
  | overlong (bytes : List Byte)
  /-- a complete frame -/
  | complete (bytes : List Byte)
  deriving DecidableEq, Repr

/-- The length byte of a lane frame being received. -/
def laneLength (rx : List Byte) : Nat := ((rx.drop 3).head?.map (·.toNat)).getD 0

/-- A byte received on a lane line (R5). -/
def laneReceive (rx : List Byte) (b : Byte) : Received :=
  if rx.isEmpty then (if b = Config.laneStart then .more [b] else .more [])
  else
    let bytes := rx ++ [b]
    if bytes.length < 4 then .more bytes
    else if laneLength bytes > Config.lanePayloadMax then .overlong bytes
    else if bytes.length = laneLength bytes + 6 then .complete bytes
    else .more bytes

/-- The frame a complete run of bytes holds. -/
def laneFrameOf (bytes : List Byte) : LaneFrame where
  cls := (bytes.drop 1).headD 0
  seq := (bytes.drop 2).headD 0
  payload := (bytes.drop 4).take (laneLength bytes)

/-- A complete frame: its CRC recomputed, BAD_CHECK where it differs, else taken (R6). -/
def laneComplete (l : LaneId) (bytes : List Byte) (s : State) : State :=
  if (laneFrameOf bytes).wire = bytes then takeFrame l (laneFrameOf bytes) s else recordLane l .badCheck bytes s

/-- The receiver of a lane port takes the phase that bytes leave it in. -/
def setLaneRx (l : LaneId) (rx : List Byte) (s : State) : State := s.modPort l fun p => { p with rx := rx }

/-- The frame being received ends as MALFORMED with the bytes received, and the receiver hunts (R4, R5). -/
def cutLaneFrame (l : LaneId) (bytes : List Byte) (s : State) : State := recordLane l .malformed bytes (setLaneRx l [] s)

/-! ### The line (R4) -/

/-- The line goes DOWN: a frame being received is MALFORMED, one in transmission lost (R4). -/
def laneDown (l : LaneId) (s : State) : State :=
  let p := (s.lane l).port
  if p.line = .up then
    let t := s.modPort l fun p => { p with line := .down, tx := none }
    if p.rx.isEmpty then t else cutLaneFrame l p.rx t
  else s

/-- The line goes UP: the last inbound sequence becomes absent (R4). -/
def laneUp (l : LaneId) (s : State) : State :=
  if (s.lane l).port.line = .down then s.modPort l fun p => { p with line := .up, lastIn := none } else s

/-- 5 ms of idle line within a frame end it as MALFORMED (R5). -/
def laneIdle (l : LaneId) (s : State) : State :=
  let p := (s.lane l).port
  if p.rx.isEmpty then s else cutLaneFrame l p.rx s

/-- The frame in transmission is complete, and the transmitter free (R18). -/
def laneSent (l : LaneId) (s : State) : State := s.modPort l fun p => { p with tx := none }

/-! ### Expiries and ticks (R20, R25, R33 to R36, R80) -/

/-- The sign-ACK timer has reached 0: SIGN_TIMEOUT with the SHOW as sent, and the sign wait ends (R20). A hold that was taken after the
timer reached 0 pauses nothing more, and the timeout is recorded all the same (R176: of an RX_OVERFLOW and a SIGN_TIMEOUT either may be
taken first); the timer reaches 0 only on a lane that is not held (R19). -/
def expireSign (l : LaneId) (s : State) : State :=
  match (s.lane l).port.signWait with
  | some w =>
    if (s.lane l).port.signTimer = some 0 then
      recordLane l .signTimeout (w.shown.frame w.seq).wire (endSignWait l s)
    else s
  | none => s

/-- The barrier-down flag of the lane's bound visit is set (R35). -/
def markBarrierDown (l : LaneId) (s : State) : State :=
  match s.bound l with
  | some (v, _) => s.modVisit v fun x => { x with barrierDown := true }
  | none => s

/-- T1 has run to 0 on a lane that is not held: LOWER, the barrier-down flag, and the lane held with STALL (R35). -/
def expireBarrier (l : LaneId) (s : State) : State :=
  if (s.lane l).lcu.t1 = some 0 ∧ s.held l = false then addCause l .stall (markBarrierDown l (lowerBarrier l s)) else s

/-- T3 has run to 0 in WARMING: the lane enters CLOSED, and WARMUP_FAIL is recorded with no frame (R25). -/
def expireWarmup (l : LaneId) (s : State) : State :=
  if (s.lane l).lcu.t3 = some 0 ∧ (s.lane l).lcu.mode = .warming then recordLane l .warmupFail [] (enterClosed l s) else s

/-- One tick of a lane's timers: T0 and T1 down unless held, T3 down, T2 up to 65535 (R33, R34, R36, R23). -/
def Lcu.tick (u : Lcu) : Lcu :=
  { u with
    t0 := if u.isHeld then u.t0 else u.t0.map fun p => (p.1 - 1, p.2)
    t1 := if u.isHeld then u.t1 else u.t1.map fun n => n - 1
    t2 := u.t2.map fun n => min (n + 1) Config.t2Max
    t3 := u.t3.map fun n => n - 1 }

/-- One tick of a lane: its timers, and its sign-ACK timer unless held (R19). -/
def Lane.tick (x : Lane) : Lane :=
  { x with
    lcu := x.lcu.tick
    port := if x.lcu.isHeld then x.port else { x.port with signTimer := x.port.signTimer.map fun n => n - 1 } }

/-- A tick of the part: every lane's timers, and the Gate Clock's count of ticks (R33 to R36, R19, R80). -/
def tickAll (s : State) : State := { s with lanes := s.lanes.map Lane.tick, clock := s.clock.map Clock.tick }

/-- A second of the Gate Clock, where it is SET and 10 ticks have passed (R80). -/
def clockSecond (s : State) : State := { s with clock := s.clock.map Clock.advance }

end Sys2Proof.Machine
end

