-- ==== Sys2Proof/Machine/Status.lean ====
section
/-! DEFINITION. READ_STATUS, SET_EVENT_ENABLE and RESTART (chapter 9), and the fault requests (chapter 10). -/

namespace Sys2Proof.Machine

/-! ### Events and status (R168, R172) -/

/-- SET_EVENT_ENABLE: the kinds of the set enabled and all others disabled, whose flags clear (R168). -/
def reqSetEventEnable (kinds : BitVec 16) (s : State) : Answer × State :=
  if setOk 9 kinds then applied (maskBytes kinds) { s with enables := kinds, events := keepEnabled kinds s.events }
  else refusedWith .badValue s

/-- The number of open visits. -/
def State.openVisits (s : State) : Nat := (allVisits.filter fun v => (s.visit v).isSome).length

/-- READ_STATUS (R172, log 9). -/
def reqReadStatus (s : State) : Answer × State :=
  applied
    (num 1 s.resetCause.toCode ++ clockBytes s.clock ++ num 1 s.openVisits ++ num 1 s.closing.length ++ num 1 s.parked.length
      ++ num 1 s.baysHeld ++ num 1 s.bayCount ++ num 1 s.records.length ++ [s.recordTag] ++ num 1 s.auth.state.toCode
      ++ flagByte s.frozen ++ maskBytes s.enables) s

/-! ### RESTART (R173) -/

/-- A lane's part of RESTART: its port, control unit and sweep cleared; a blank SHOW and a LOWER where it was not CLOSED (R22, R44,
R129, R146). -/
def Lane.restart (x : Lane) : Lane :=
  let p := x.port.clear
  { port := if x.lcu.mode = .closed then p else { p with hpShow := some blankShow, hpBarrier := some .lower }
    lcu := x.lcu.clear
    sweep := x.sweep.clear
    dirRef := none
    dirAcked := false }

/-- A record in transmission whose queue RESTART empties: completed all the same (R173). -/
def MgmtTx.orphan : MgmtTx → MgmtTx
  | .record tag r => .strayRecord tag r
  | t => t

/-- A management link's part of RESTART: requests and reply discarded, a frame in transmission completed (R161, R174). -/
def MgmtLink.restart (k : MgmtLink) : MgmtLink := { k with queue := [], reply := none, tx := k.tx.map MgmtTx.orphan }

/-- RESTART's effect on every block (R173, with R22, R44, R69, R91, R93, R110, R129, R146, R161, R174). -/
def restartAll (s : State) : State :=
  { s with
    lanes := s.lanes.map Lane.restart
    visits := Vector.replicate 24 none
    parked := []
    bayWait := []
    closing := []
    bookings := s.bookings.map fun p => (p.1, p.2.restore)
    closures := s.closures.map fun p => (p.1, { p.2 with pins := 0 })
    trail := []
    frozen := false
    cursor := none
    auth := s.auth.restart
    term := s.term.restart
    records := []
    events := Vector.replicate 9 0
    turnRecord := false
    resetCause := .restart }

/-- RESTART (R173); its reply follows it into the reply holding place. -/
def reqRestart (s : State) : Answer × State := applied [] (restartAll s)

/-! ### Fault requests (R179 to R181) -/

/-- A port and a set of kinds it has: BAD_VALUE for a port above 17 or a kind the port does not have (10, section 10.5). -/
def withKinds (n : Nat) (kinds : BitVec 16) (k : PortId → State → Answer × State) (s : State) : Answer × State :=
  withPort n (fun p s => if subMask kinds (portKinds p) then k p s else refusedWith .badValue s) s

/-- The pointer as bytes: a kind or none. -/
def pointerBytes (o : Option FaultKind) : List Byte := optBytes (fun (k : FaultKind) => num 1 k.toCode) o

/-- CLEAR_FAULTS (R179). -/
def reqClearFaults (n : Nat) (kinds : BitVec 16) (s : State) : Answer × State :=
  withKinds n kinds (fun p s =>
    let r := (s.faults.get p).clear kinds
    applied (kindBytes p.val r.status ++ pointerBytes r.pointer ++ flagByte r.stale) (s.modFault p (FaultRecord.clear kinds))) s

/-- SET_FAULT_MASK (R180). -/
def reqSetFaultMask (n : Nat) (kinds : BitVec 16) (s : State) : Answer × State :=
  withKinds n kinds (fun p s => applied (kindBytes p.val kinds) (s.modFault p fun r => { r with mask := kinds })) s

/-- SET_FAULT_SEVERITY: lane ports only (R180). -/
def reqSetFaultSeverity (n : Nat) (kinds : BitVec 16) (s : State) : Answer × State :=
  withKinds n kinds (fun p s =>
    if p.val < 16 then applied (kindBytes p.val kinds) (s.modFault p fun r => { r with severity := kinds })
    else refusedWith .badValue s) s

/-- READ_FAULTS: status, mask, severity of a lane port, pointer, header log with its count, stale mark (R181). The severity set is given
without a presence byte, and is left out for ports 16 and 17 (log 9). -/
def reqReadFaults (n : Nat) (s : State) : Answer × State :=
  withPort n (fun p s =>
    let r := s.faults.get p
    applied
      (kindBytes p.val r.status ++ kindBytes p.val r.mask ++ (if p.val < 16 then kindBytes p.val r.severity else []) ++ pointerBytes r.pointer
        ++ textBytes r.log ++ flagByte r.stale) s) s

end Sys2Proof.Machine
end

