-- ==== Sys2Proof/Machine/Serving.lean ====
section
/-! DEFINITION. The two management links (chapters 8 and 9): handing requests to their owners, the reply holding places, the
transmitters, and serving: what the part does after each effect until nothing more can be taken or sent (R164, R147, R170, R158, R18). -/

namespace Sys2Proof.Machine

/-! ### Requests to their owners (R147, R164, R165) -/

/-- The terminal's requests, each by its owner's rule; ADD_HOLD and REMOVE_HOLD are DENIED (R164, R165). -/
def ownerTerminal (r : Request) (s : State) : Answer × State :=
  match r with
  | .openLane n d => reqOpenLane n d s
  | .setDirection n d => reqSetDirection n d s
  | .closeLane n => reqCloseLane n s
  | .holdLane n => reqHoldLane n s
  | .stepLane n => reqStepLane n s
  | .resumeLane n => reqResumeLane n s
  | .resetLane n => reqResetLane n s
  | .readLane n => reqReadLane n s
  | .writeProfile i p => reqWriteProfile i p s
  | .readProfile i => reqReadProfile i s
  | .assignProfile n i => reqAssignProfile n i s
  | .setVerdict n v => reqSetVerdict n v s
  | .resolve n o => reqResolve n o s
  | .cancelVisit n => reqCancelVisit n s
  | .readVisit sel => reqReadVisit sel s
  | .setBays k => reqSetBays k s
  | .writePolicy r c => reqWritePolicy r c s
  | .readPolicy => reqReadPolicy s
  | .loadBooking f => reqLoadBooking f s
  | .cancelBooking r => reqCancelBooking r s
  | .purgeBooking r => reqPurgeBooking r s
  | .readBooking sel => reqReadBooking sel s
  | .findBooking c k => reqFindBooking c k s
  | .loadWindow i a b c => reqLoadWindow i a b c s
  | .removeWindow i => reqRemoveWindow i s
  | .readWindow i => reqReadWindow i s
  | .setClock m sec => reqSetClock m sec s
  | .readClock => reqReadClock s
  | .setSlack e l => reqSetSlack e l s
  | .loadClosure c ts => reqLoadClosure c ts s
  | .removeClosure c => reqRemoveClosure c s
  | .setRetain c b => reqSetRetain c b s
  | .readClosure sel => reqReadClosure sel s
  | .writeRule i r => reqWriteRule i r s
  | .readRule i => reqReadRule i s
  | .readSweep n => reqReadSweep n s
  | .writeDirection i e => reqWriteDirection i e s
  | .clearDirection i => reqClearDirection i s
  | .readDirection i => reqReadDirection i s
  | .writeMessage i t => reqWriteMessage i t s
  | .readMessage i => reqReadMessage i s
  | .trailFreeze => reqTrailFreeze s
  | .trailRead => reqTrailRead s
  | .trailThaw => reqTrailThaw s
  | .addHold _ _ _ => refusedWith .denied s
  | .removeHold _ => refusedWith .denied s
  | .readHold sel => reqReadHold sel s
  | .raiseNotice f => reqRaiseNotice .terminal f s
  | .clearNotice f => reqClearNotice .terminal f s
  | .maskNotice f => reqMaskNotice .terminal f s
  | .unmaskNotice f => reqUnmaskNotice .terminal f s
  | .readNotice => reqReadNotice .terminal s
  | .writeSlot i b => reqWriteSlot i b s
  | .readSlot i => reqReadSlot i s
  | .setEventEnable k => reqSetEventEnable k s
  | .readStatus => reqReadStatus s
  | .restart => reqRestart s
  | .clearFaults p k => reqClearFaults p k s
  | .setFaultMask p k => reqSetFaultMask p k s
  | .setFaultSeverity p k => reqSetFaultSeverity p k s
  | .readFaults p => reqReadFaults p s

/-- The authority's requests, each by its rule; it has no other (R147). -/
def ownerAuthority (r : Request) (s : State) : Answer × State :=
  match r with
  | .addHold c k ref => reqAddHold c k ref s
  | .removeHold c => reqRemoveHold c s
  | .readHold sel => reqReadHold sel s
  | .readVisit sel => reqAuthReadVisit sel s
  | .raiseNotice f => reqRaiseNotice .authority f s
  | .clearNotice f => reqClearNotice .authority f s
  | .maskNotice f => reqMaskNotice .authority f s
  | .unmaskNotice f => reqUnmaskNotice .authority f s
  | .readNotice => reqReadNotice .authority s
  | .writeSlot i b => reqWriteSlot i b s
  | .readSlot i => reqReadSlot i s
  | _ => refusedWith .unknown s

/-- A request handed to its owner by the link it came on. -/
def owner : Link → Request → State → Answer × State
  | .terminal => ownerTerminal
  | .authority => ownerAuthority

/-- The frame a queued request came in (R163, 11.3). -/
def QueuedRequest.frame (q : QueuedRequest) : MgmtFrame := ⟨kindRequest, q.tag, q.code :: q.body⟩

/-- A hold request on the terminal link: DENIED whatever its body (R147, R165, log 8). -/
def deniedCode (k : Link) (c : Byte) : Bool := k == .terminal && (c == 0x60#8 || c == 0x61#8)

/-- The request's answer and effect: UNKNOWN with UNKNOWN_CLASS for a code of no request of the link, DENIED for a hold request from the
terminal, BAD_VALUE for a body that fits no layout, else its owner's (R147, R165). -/
def runRequest (k : Link) (q : QueuedRequest) (s : State) : Answer × State :=
  if !k.knows q.code then refusedWith .unknown (recordLink k .unknownClass q.frame.wire s)
  else if deniedCode k q.code then refusedWith .denied s
  else
    match q.request with
    | some r => owner k r s
    | none => refusedWith .badValue s

/-! ### The links -/

/-- A link's state. -/
def State.link (s : State) : Link → MgmtLink
  | .terminal => s.term
  | .authority => s.auth

/-- The state with a link changed by `f`. -/
def State.modLink (s : State) (k : Link) (f : MgmtLink → MgmtLink) : State :=
  match k with
  | .terminal => { s with term := f s.term }
  | .authority => { s with auth := f s.auth }

/-- The request taken: its whole effect, and its reply into the holding place (R164, R147, R166). -/
def takeRequest (k : Link) (q : QueuedRequest) (s : State) : State :=
  let (a, t) := runRequest k q s
  t.modLink k fun m => { m with reply := some { tag := q.tag, code := q.code, status := a.1, result := a.2 } }

/-! ### Event snapshots (R169) -/

/-- Where a member stands in a queue, counted from 0 at the oldest. -/
def placeIn {α : Type} [DecidableEq α] (x : α) (q : List α) : Option Nat := if x ∈ q then some (q.idxOf x) else none

/-- The lane of a lane source. -/
def sourceLane (p : PortId) : LaneId := if h : p.val < 16 then ⟨p.val, h⟩ else 0

/-- The codes of the bound visit that await their record, in position order (R108). -/
def State.awaitingCodes (s : State) (l : LaneId) : List Text :=
  match s.bound l with
  | some (_, x) => (x.carried.filter fun e => e.closure == .awaitingRecord).map (·.code)
  | none => []

/-- The snapshot of an event, of the state as its transmission begins (R169, R108, log 10). -/
def State.snapshot (s : State) (k : EventKind) (src : PortId) : List Byte :=
  let l := sourceLane src
  let u := (s.lane l).lcu
  match k with
  | .laneMode => num 1 u.mode.toCode ++ optBytes (fun (m : LaneMode) => num 1 m.toCode) u.target
  | .laneHeld => maskBytes u.holds ++ flagByte u.pendingDir ++ optBytes (num 2) (s.boundNumber l)
  | .parked => flagByte (s.isParked l) ++ optBytes (num 1) (placeIn l s.parked) ++ num 1 s.parked.length
  | .closureMiss => optBytes (num 2) (s.boundNumber l) ++ listOf id (s.awaitingCodes l)
  | .bayWait =>
    optBytes (num 2) (s.boundNumber l) ++ optBytes (num 1) ((s.bound l).bind fun p => placeIn p.1 s.bayWait)
      ++ num 1 s.bayWait.length ++ num 1 s.baysHeld ++ num 1 s.bayCount
  | .fault => kindBytes src.val (s.faults.get src).status ++ pointerBytes (s.faults.get src).pointer
  | .authLink => num 1 s.auth.state.toCode
  | .notice => maskBytes s.termWord ++ maskBytes s.termMask
  | .holdChange => num 2 s.holdList.length

/-- The kinds whose source is the part (R168). -/
def partWide : EventKind → Bool
  | .authLink | .notice | .holdChange => true
  | _ => false

/-- The frame a transmitter sends (11.3). -/
def MgmtTx.frame : MgmtTx → MgmtFrame
  | .reply r => ⟨kindReply, r.tag, r.code :: num 1 r.status.toCode ++ r.result⟩
  | .event k src snap => ⟨kindEvent, 0, num 1 k.toCode ++ num 1 (if partWide k then 255 else src.val) ++ snap⟩
  | .record tag r => ⟨kindRecord, tag, r.encode⟩
  | .strayRecord tag r => ⟨kindRecord, tag, r.encode⟩
  | .attention w m n => ⟨kindAttention, 0, maskBytes w ++ maskBytes m ++ num 1 n⟩

/-! ### The transmitters (R170, R158) -/

/-- The terminal transmitter begins a frame. -/
def beginTerm (t : MgmtTx) (s : State) : State := { s with term := { s.term with tx := some t } }

/-- An EVENT frame begins: its flag clears, and the turn becomes RECORD (R168, R170), as the transmission begins (log 21). -/
def sendEvent (e : EventKind × PortId) (s : State) : State :=
  { beginTerm (.event e.1 e.2 (s.snapshot e.1 e.2)) (clearEvent e.1 e.2 s) with turnRecord := true }

/-- A RECORD frame begins: the record stays at the head of its queue, and the turn becomes EVENT (R167, R170), as the transmission begins
(log 21). -/
def sendRecord (r : Byte × GateRecord) (s : State) : State := { beginTerm (.record r.1 r.2) s with turnRecord := false }

/-- What the terminal transmitter sends when no reply waits: by the alternation turn where both are pending (R170). -/
def chooseTerm (s : State) : State :=
  match s.firstEvent, s.records with
  | some e, r :: _ => if s.turnRecord then sendRecord r s else sendEvent e s
  | some e, [] => sendEvent e s
  | none, r :: _ => sendRecord r s
  | none, [] => s

/-- The terminal transmitter, when free and the link UP: the reply first, then events and records (R170). A reply formed while
the last one is being sent is sent next, before any event or record (log 19). -/
def kickTerm (s : State) : State :=
  if s.term.state = .up ∧ s.term.tx = none then
    match s.term.reply with
    | some r => { s with term := { s.term with reply := none, tx := some (.reply r) } }
    | none => chooseTerm s
  else s

/-- The ATTENTION frame of the moment: word, mask and count of presenting flags (R158, 11.3). -/
def State.attentionFrame (s : State) : MgmtTx := .attention s.authWord s.authMask (countBits (presenting s.authWord s.authMask))

/-- The authority transmitter, when free and the link UP: the reply first, then a pending ATTENTION (R147, R158). -/
def kickAuth (s : State) : State :=
  if s.auth.state = .up ∧ s.auth.tx = none then
    match s.auth.reply with
    | some r => { s with auth := { s.auth with reply := none, tx := some (.reply r) } }
    | none =>
      if s.attention then { s with attention := false, auth := { s.auth with tx := some s.attentionFrame } } else s
  else s

/-- Every transmitter that is free chooses (R18, R170, R158, log 6). -/
def settle (s : State) : State := kickAuth (kickTerm (transmitLanes s))

/-! ### Serving (R164, R147) -/

/-- Requests of a link are taken, one at a time, while the reply holding place is empty (R164, R147). -/
def serveLink (k : Link) : Nat → State → State
  | 0, s => s
  | fuel + 1, s =>
    match (s.link k).reply, (s.link k).queue with
    | none, q :: rest => serveLink k fuel (settle (takeRequest k q (s.modLink k fun m => { m with queue := rest })))
    | _, _ => s

/-- What follows each effect: the transmitters choose, and requests are taken while their reply holding places are empty (log 6). -/
def serve (s : State) : State :=
  let t := settle s
  let t := serveLink .terminal t.term.queue.length t
  serveLink .authority t.auth.queue.length t

/-! ### Reception (R162, R163) -/

/-- The number of requests a link's queue holds (R147, R164). -/
def queueSize : Link → Nat
  | .terminal => Config.terminalQueueSize
  | .authority => Config.authorityQueueSize

/-- A request received: it joins its link's queue, or overflows (R147, R163, R164). -/
def joinQueue (k : Link) (q : QueuedRequest) (s : State) : State :=
  if (s.link k).queue.length < queueSize k then s.modLink k fun m => { m with queue := m.queue ++ [q] }
  else recordLink k .rxOverflow q.frame.wire s

/-- A request received and accepted: with its link's queue and reply holding place empty it is taken at once, else it joins the queue
(R163, R164, R147). -/
def acceptRequest (k : Link) (q : QueuedRequest) (s : State) : State :=
  if (s.link k).reply = none ∧ (s.link k).queue = [] then takeRequest k q s else joinQueue k q s

/-- A well-framed request arrives on a link that is UP, and is served (log 3). -/
def arriveRequest (k : Link) (q : QueuedRequest) (s : State) : State :=
  if (s.link k).state = .up then serve (acceptRequest k q s) else s

/-- A request with its fields as it stands in its queue. -/
def queuedOf (tag : Byte) (r : Request) : QueuedRequest := ⟨tag, r.code, r.encode, some r⟩

/-- The two length bytes of a management frame being received. -/
def mgmtLength (rx : List Byte) : Nat := ofBytes ((rx.drop 3).take 2)

/-- A byte received on a management line (R162). -/
def mgmtReceive (rx : List Byte) (b : Byte) : Received :=
  if rx.isEmpty then (if b = Config.mgmtStart then .more [b] else .more [])
  else
    let bytes := rx ++ [b]
    if bytes.length < 5 then .more bytes
    else if mgmtLength bytes > Config.bodyMax then .overlong bytes
    else if bytes.length = mgmtLength bytes + 9 then .complete bytes
    else .more bytes

/-- The frame a complete run of bytes holds. -/
def mgmtFrameOf (bytes : List Byte) : MgmtFrame where
  kind := (bytes.drop 1).headD 0
  tag := (bytes.drop 2).headD 0
  body := (bytes.drop 5).take (mgmtLength bytes)

/-- A complete management frame: CRC, kind and header checked, then the request taken into its queue (R162, R163). -/
def mgmtComplete (k : Link) (bytes : List Byte) (s : State) : State :=
  let f := mgmtFrameOf bytes
  if f.wire ≠ bytes then recordLink k .badCheck bytes s
  else if f.kind ≠ kindRequest then recordLink k .unknownClass bytes s
  else
    match f.body with
    | [] => recordLink k .malformed bytes s
    | c :: body => acceptRequest k ⟨f.tag, c, body, parseRequest c body⟩ s

/-- The receiver of a link takes the phase that bytes leave it in. -/
def setLinkRx (k : Link) (rx : List Byte) (s : State) : State := s.modLink k fun m => { m with rx := rx }

/-- The frame being received ends as MALFORMED with the bytes received, and the receiver hunts (R162). -/
def cutMgmtFrame (k : Link) (bytes : List Byte) (s : State) : State := recordLink k .malformed bytes (setLinkRx k [] s)

/-- One byte on a management line that is UP; a frame ended or complete is acted on and what follows served (R162, R163). -/
def mgmtByte (k : Link) (s : State) (b : Byte) : State :=
  if (s.link k).state = .up then
    match mgmtReceive (s.link k).rx b with
    | .more rx => setLinkRx k rx s
    | .overlong bytes => serve (cutMgmtFrame k bytes s)
    | .complete bytes => serve (mgmtComplete k bytes (setLinkRx k [] s))
  else s

/-- Bytes on a management line, one after another (log 12). -/
def mgmtBytes (k : Link) (bs : List Byte) (s : State) : State := bs.foldl (mgmtByte k) s

/-- One byte on a lane line that is UP; a frame ended or complete is acted on and what follows served (R5, R6). -/
def laneByte (l : LaneId) (s : State) (b : Byte) : State :=
  if (s.lane l).port.line = .up then
    match laneReceive (s.lane l).port.rx b with
    | .more rx => setLaneRx l rx s
    | .overlong bytes => serve (cutLaneFrame l bytes s)
    | .complete bytes => serve (laneComplete l bytes (setLaneRx l [] s))
  else s

/-- Bytes on a lane line, one after another (log 12). -/
def laneBytesIn (l : LaneId) (bs : List Byte) (s : State) : State := bs.foldl (laneByte l) s

/-- 1 ms of idle line within a management frame ends it as MALFORMED (R162). -/
def mgmtIdle (k : Link) (s : State) : State :=
  let m := s.link k
  if m.rx.isEmpty then s else cutMgmtFrame k m.rx s

/-! ### Link changes and completed transmissions (R161, R167, R171) -/

/-- A frame being received as a link goes DOWN is MALFORMED (R162). -/
def abandonMgmt (k : Link) (s : State) : State :=
  if (s.link k).rx.isEmpty then s else cutMgmtFrame k (s.link k).rx s

/-- A frame in transmission as the terminal link goes DOWN: an EVENT sets its flag again where its kind is enabled; a record stays at
the head of its queue; the rest are lost (R171). -/
def loseTermTx (o : Option MgmtTx) (s : State) : State :=
  match o with
  | some (.event k src _) => raiseEvent k src s
  | _ => s

/-- The terminal link goes DOWN (R171). -/
def termDown (s : State) : State :=
  if s.term.state = .up then
    let t := loseTermTx s.term.tx (abandonMgmt .terminal s)
    { t with term := { t.term with state := .down, queue := [], reply := none, tx := none } }
  else s

/-- The terminal link goes UP: the receiver starts in HUNTING (R171). -/
def termUp (s : State) : State :=
  if s.term.state = .down then { s with term := { s.term with state := .up, rx := [] } } else s

/-- The authority link goes DOWN (R161). -/
def authDown (s : State) : State :=
  if s.auth.state = .up then
    let t := abandonMgmt .authority s
    raiseEvent .authLink 0
      { t with auth := { t.auth with state := .down, queue := [], reply := none, tx := none }, attention := false }
  else s

/-- The authority link goes UP: AUTH_LINK raised, and attention-pending set where a flag of its word is presenting (R161). -/
def authUp (s : State) : State :=
  if s.auth.state = .down then
    raiseEvent .authLink 0
      { s with
        auth := { s.auth with state := .up, rx := [] }
        attention := s.attention || presenting s.authWord s.authMask != 0 }
  else s

/-- The terminal's frame in transmission is complete: a record leaves its queue, and the oldest CLOSING visit takes the freed place
(R67, R167, R170). -/
def termSent (s : State) : State :=
  let t := { s with term := { s.term with tx := none } }
  match s.term.tx with
  | some (.record _ _) => placeClosing { t with records := t.records.drop 1 }
  | _ => t

/-- The authority's frame in transmission is complete (R147). -/
def authSent (s : State) : State := { s with auth := { s.auth with tx := none } }

end Sys2Proof.Machine
end

