-- ==== Sys2Proof/Machine/Events.lean ====
section
/-! DEFINITION. The meanings of the commands that are no requests: resets, time, lane and link events, applications and expiries. -/

namespace Sys2Proof.Machine

/-- POWER_ON_RESET: every block in its initial state, the lines as they are (log 4) (R44). -/
def execPowerOnReset (s : State) : Host.Outcome State Fault Refusal :=
  .next (State.resetWith .powerOn s.pending (s.lanes.map fun x => Lane.reset x.port.line) s.auth.state s.term.state)

/-- RESET_LINE: the state of power-on reset, with reset cause RESET_LINE (R44). -/
def execResetLine (s : State) : Host.Outcome State Fault Refusal :=
  .next (State.resetWith .resetLine s.pending (s.lanes.map fun x => Lane.reset x.port.line) s.auth.state s.term.state)

/-- TICK: every running timer and the Gate Clock count one tick (log 5) (R33). -/
def execTick (s : State) : Host.Outcome State Fault Refusal :=
  .next (serve (tickAll s))

/-- GATE_CLOCK_SECOND: a SET Gate Clock advances by a second once 10 ticks have passed (log 5) (R80). -/
def execGateClockSecond (s : State) : Host.Outcome State Fault Refusal :=
  .next (serve (clockSecond s))

/-- LANE_LINE_DOWN: a lane line goes DOWN (R4). -/
def execLaneLineDown (lane : LaneId) (s : State) : Host.Outcome State Fault Refusal :=
  .next (serve (laneDown lane s))

/-- LANE_LINE_UP: a lane line goes UP (R4). -/
def execLaneLineUp (lane : LaneId) (s : State) : Host.Outcome State Fault Refusal :=
  .next (serve (laneUp lane s))

/-- LANE_IDLE_TIMEOUT: an unfinished lane frame ends by idle line (R5). -/
def execLaneIdleTimeout (lane : LaneId) (s : State) : Host.Outcome State Fault Refusal :=
  .next (serve (laneIdle lane s))

/-- LANE_LENGTH_OVERRUN: the first bytes of a lane frame, its length byte above 120 (log 12) (R5). -/
def execLaneLengthOverrun (lane : LaneId) (cls seq len : Byte) (s : State) : Host.Outcome State Fault Refusal :=
  .next (laneBytesIn lane [Config.laneStart, cls, seq, len] s)

/-- VISIT_FRAME_RECEIVED: the bytes of a lane frame (log 12) (R10). -/
def execVisitFrameReceived (lane : LaneId) (bytes : List Byte) (s : State) : Host.Outcome State Fault Refusal :=
  .next (laneBytesIn lane bytes s)

/-- READY: a READY frame with a correct CRC (log 11) (R24). -/
def execReady (lane : LaneId) (seq unit : Byte) (s : State) : Host.Outcome State Fault Refusal :=
  .next (laneBytesIn lane (LaneFrame.wire ⟨0x09, seq, [unit]⟩) s)

/-- ACK_SIGN: an ACK frame of the SIGN with a correct CRC (log 11) (R15). -/
def execAckSign (lane : LaneId) (seq echo : Byte) (s : State) : Host.Outcome State Fault Refusal :=
  .next (laneBytesIn lane (LaneFrame.wire ⟨0x0A, seq, [6, echo]⟩) s)

/-- ACK_BARRIER: an ACK frame of the BARRIER with a correct CRC (log 11) (R15). -/
def execAckBarrier (lane : LaneId) (seq echo position : Byte) (s : State) : Host.Outcome State Fault Refusal :=
  .next (laneBytesIn lane (LaneFrame.wire ⟨0x0A, seq, [7, echo, position]⟩) s)

/-- LANE_TX_COMPLETE: a lane transmitter completes its frame (R18). -/
def execLaneTxComplete (lane : LaneId) (s : State) : Host.Outcome State Fault Refusal :=
  .next (serve (laneSent lane s))

/-- SIGN_TIMEOUT: the sign-ACK timer expires (R20). -/
def execSignTimeout (lane : LaneId) (s : State) : Host.Outcome State Fault Refusal :=
  .next (serve (expireSign lane s))

/-- APPLY_ARRIVE: an ARRIVE at the head is applied (R46). -/
def execApplyArrive (lane : LaneId) (s : State) : Host.Outcome State Fault Refusal :=
  .next (serve (applyHead lane (fun c => match c with | .arrive _ => true | _ => false) s))

/-- APPLY_PLATE: a PLATE at the head is applied (R48). -/
def execApplyPlate (lane : LaneId) (s : State) : Host.Outcome State Fault Refusal :=
  .next (serve (applyHead lane (fun c => match c with | .plate _ _ => true | _ => false) s))

/-- APPLY_CARD: a CARD at the head is applied (R48). -/
def execApplyCard (lane : LaneId) (s : State) : Host.Outcome State Fault Refusal :=
  .next (serve (applyHead lane (fun c => match c with | .card _ => true | _ => false) s))

/-- APPLY_CODE: a CODE at the head is applied (R49). -/
def execApplyCode (lane : LaneId) (s : State) : Host.Outcome State Fault Refusal :=
  .next (serve (applyHead lane (fun c => match c with | .code _ _ _ => true | _ => false) s))

/-- APPLY_CLOSURE: a CLOSURE at the head is applied (R52). -/
def execApplyClosure (lane : LaneId) (s : State) : Host.Outcome State Fault Refusal :=
  .next (serve (applyHead lane (fun c => match c with | .closure _ _ _ _ _ => true | _ => false) s))

/-- APPLY_FIND: a FIND at the head is applied (R115). -/
def execApplyFind (lane : LaneId) (s : State) : Host.Outcome State Fault Refusal :=
  .next (serve (applyHead lane (fun c => match c with | .find _ _ _ _ _ _ _ => true | _ => false) s))

/-- APPLY_SWEEP_END: a SWEEP_END at the head is applied (R116). -/
def execApplySweepEnd (lane : LaneId) (s : State) : Host.Outcome State Fault Refusal :=
  .next (serve (applyHead lane (fun c => match c with | .sweepEnd _ _ _ => true | _ => false) s))

/-- APPLY_CLEAR: a CLEAR at the head is applied (R61). -/
def execApplyClear (lane : LaneId) (s : State) : Host.Outcome State Fault Refusal :=
  .next (serve (applyHead lane (fun c => match c with | .clear => true | _ => false) s))

/-- READ_WINDOW_EXPIRY: T0 expires with window kind READ (R51). -/
def execReadWindowExpiry (lane : LaneId) (s : State) : Host.Outcome State Fault Refusal :=
  .next (serve (expireRead lane s))

/-- CHECK_WINDOW_EXPIRY: T0 expires with window kind CHECK (R54). -/
def execCheckWindowExpiry (lane : LaneId) (s : State) : Host.Outcome State Fault Refusal :=
  .next (serve (expireCheck lane s))

/-- BARRIER_STALL: T1 expires (R35). -/
def execBarrierStall (lane : LaneId) (s : State) : Host.Outcome State Fault Refusal :=
  .next (serve (expireBarrier lane s))

/-- WARMUP_EXPIRY: T3 expires (R25). -/
def execWarmupExpiry (lane : LaneId) (s : State) : Host.Outcome State Fault Refusal :=
  .next (serve (expireWarmup lane s))

/-- MGMT_LENGTH_OVERRUN: the first bytes of a management frame, its length above 1024 (log 12) (R162). -/
def execMgmtLengthOverrun (link : Link) (kind tag high low : Byte) (s : State) : Host.Outcome State Fault Refusal :=
  .next (mgmtBytes link [Config.mgmtStart, kind, tag, high, low] s)

/-- MGMT_IDLE_TIMEOUT: an unfinished management frame ends by idle line (R162). -/
def execMgmtIdleTimeout (link : Link) (s : State) : Host.Outcome State Fault Refusal :=
  .next (serve (mgmtIdle link s))

/-- MGMT_FRAME_RECEIVED: the bytes of a management frame (log 12) (R163). -/
def execMgmtFrameReceived (link : Link) (bytes : List Byte) (s : State) : Host.Outcome State Fault Refusal :=
  .next (mgmtBytes link bytes s)

/-- TERMINAL_LINK_DOWN: the terminal link goes DOWN (R171). -/
def execTerminalLinkDown (s : State) : Host.Outcome State Fault Refusal :=
  .next (serve (termDown s))

/-- TERMINAL_LINK_UP: the terminal link goes UP (R171). -/
def execTerminalLinkUp (s : State) : Host.Outcome State Fault Refusal :=
  .next (serve (termUp s))

/-- AUTH_LINK_DOWN: the authority link goes DOWN (R161). -/
def execAuthLinkDown (s : State) : Host.Outcome State Fault Refusal :=
  .next (serve (authDown s))

/-- AUTH_LINK_UP: the authority link goes UP (R161). -/
def execAuthLinkUp (s : State) : Host.Outcome State Fault Refusal :=
  .next (serve (authUp s))

/-- TERMINAL_TX_COMPLETE: the terminal transmitter completes its frame (R170). -/
def execTerminalTxComplete (s : State) : Host.Outcome State Fault Refusal :=
  .next (serve (termSent s))

/-- AUTH_TX_COMPLETE: the authority transmitter completes its frame (R147). -/
def execAuthTxComplete (s : State) : Host.Outcome State Fault Refusal :=
  .next (serve (authSent s))

end Sys2Proof.Machine
end

