-- ==== Sys2Proof/Machine/Requests.lean ====
section
/-! DEFINITION. The meanings of the commands that are requests, each the arrival of its request on its link (log 3); what the request
does is its owner's definition (`ownerTerminal`, `ownerAuthority`). -/

namespace Sys2Proof.Machine

/-- OPEN_LANE: the request arrives, is taken in its turn and answered (log 3) (R23). -/
def execOpenLane (tag : Byte) (lane : Nat) (dir : Dir) (s : State) : Host.Outcome State Fault Refusal :=
  .next (arriveRequest .terminal (queuedOf tag (.openLane lane dir)) s)

/-- SET_DIRECTION: the request arrives, is taken in its turn and answered (log 3) (R26). -/
def execSetDirection (tag : Byte) (lane : Nat) (dir : Dir) (s : State) : Host.Outcome State Fault Refusal :=
  .next (arriveRequest .terminal (queuedOf tag (.setDirection lane dir)) s)

/-- CLOSE_LANE: the request arrives, is taken in its turn and answered (log 3) (R27). -/
def execCloseLane (tag : Byte) (lane : Nat) (s : State) : Host.Outcome State Fault Refusal :=
  .next (arriveRequest .terminal (queuedOf tag (.closeLane lane)) s)

/-- STEP_LANE: the request arrives, is taken in its turn and answered (log 3) (R39). -/
def execStepLane (tag : Byte) (lane : Nat) (s : State) : Host.Outcome State Fault Refusal :=
  .next (arriveRequest .terminal (queuedOf tag (.stepLane lane)) s)

/-- RESUME_LANE: the request arrives, is taken in its turn and answered (log 3) (R40). -/
def execResumeLane (tag : Byte) (lane : Nat) (s : State) : Host.Outcome State Fault Refusal :=
  .next (arriveRequest .terminal (queuedOf tag (.resumeLane lane)) s)

/-- RESET_LANE: the request arrives, is taken in its turn and answered (log 3) (R43). -/
def execResetLane (tag : Byte) (lane : Nat) (s : State) : Host.Outcome State Fault Refusal :=
  .next (arriveRequest .terminal (queuedOf tag (.resetLane lane)) s)

/-- READ_LANE: the request arrives, is taken in its turn and answered (log 3) (R42). -/
def execReadLane (tag : Byte) (lane : Nat) (s : State) : Host.Outcome State Fault Refusal :=
  .next (arriveRequest .terminal (queuedOf tag (.readLane lane)) s)

/-- WRITE_PROFILE: the request arrives, is taken in its turn and answered (log 3) (R31). -/
def execWriteProfile (tag : Byte) (index : Nat) (fields : Profile) (s : State) : Host.Outcome State Fault Refusal :=
  .next (arriveRequest .terminal (queuedOf tag (.writeProfile index fields)) s)

/-- READ_PROFILE: the request arrives, is taken in its turn and answered (log 3) (R31). -/
def execReadProfile (tag : Byte) (index : Nat) (s : State) : Host.Outcome State Fault Refusal :=
  .next (arriveRequest .terminal (queuedOf tag (.readProfile index)) s)

/-- ASSIGN_PROFILE: the request arrives, is taken in its turn and answered (log 3) (R32). -/
def execAssignProfile (tag : Byte) (lane index : Nat) (s : State) : Host.Outcome State Fault Refusal :=
  .next (arriveRequest .terminal (queuedOf tag (.assignProfile lane index)) s)

/-- SET_VERDICT: the request arrives, is taken in its turn and answered (log 3) (R64). -/
def execSetVerdict (tag : Byte) (lane : Nat) (verdict : Verdict) (s : State) : Host.Outcome State Fault Refusal :=
  .next (arriveRequest .terminal (queuedOf tag (.setVerdict lane verdict)) s)

/-- RESOLVE: the request arrives, is taken in its turn and answered (log 3) (R62). -/
def execResolve (tag : Byte) (visit : Nat) (outcome : Verdict) (s : State) : Host.Outcome State Fault Refusal :=
  .next (arriveRequest .terminal (queuedOf tag (.resolve visit outcome)) s)

/-- CANCEL_VISIT: the request arrives, is taken in its turn and answered (log 3) (R63). -/
def execCancelVisit (tag : Byte) (visit : Nat) (s : State) : Host.Outcome State Fault Refusal :=
  .next (arriveRequest .terminal (queuedOf tag (.cancelVisit visit)) s)

/-- READ_VISIT: the request arrives, is taken in its turn and answered (log 3) (R65). -/
def execReadVisit (tag : Byte) (sel : VisitSel) (s : State) : Host.Outcome State Fault Refusal :=
  .next (arriveRequest .terminal (queuedOf tag (.readVisit sel)) s)

/-- SET_BAYS: the request arrives, is taken in its turn and answered (log 3) (R60). -/
def execSetBays (tag : Byte) (count : Nat) (s : State) : Host.Outcome State Fault Refusal :=
  .next (arriveRequest .terminal (queuedOf tag (.setBays count)) s)

/-- WRITE_POLICY: the request arrives, is taken in its turn and answered (log 3) (R55). -/
def execWritePolicy (tag : Byte) (reason : Reason) (cls : PolicyClass) (s : State) : Host.Outcome State Fault Refusal :=
  .next (arriveRequest .terminal (queuedOf tag (.writePolicy reason cls)) s)

/-- READ_POLICY: the request arrives, is taken in its turn and answered (log 3) (R55). -/
def execReadPolicy (tag : Byte) (s : State) : Host.Outcome State Fault Refusal :=
  .next (arriveRequest .terminal (queuedOf tag .readPolicy) s)

/-- LOAD_BOOKING: the request arrives, is taken in its turn and answered (log 3) (R72). -/
def execLoadBooking (tag : Byte) (fields : BookingLoad) (s : State) : Host.Outcome State Fault Refusal :=
  .next (arriveRequest .terminal (queuedOf tag (.loadBooking fields)) s)

/-- CANCEL_BOOKING: the request arrives, is taken in its turn and answered (log 3) (R73). -/
def execCancelBooking (tag : Byte) (ref : Nat) (s : State) : Host.Outcome State Fault Refusal :=
  .next (arriveRequest .terminal (queuedOf tag (.cancelBooking ref)) s)

/-- PURGE_BOOKING: the request arrives, is taken in its turn and answered (log 3) (R74). -/
def execPurgeBooking (tag : Byte) (ref : Nat) (s : State) : Host.Outcome State Fault Refusal :=
  .next (arriveRequest .terminal (queuedOf tag (.purgeBooking ref)) s)

/-- READ_BOOKING: the request arrives, is taken in its turn and answered (log 3) (R75). -/
def execReadBooking (tag : Byte) (sel : BookingSel) (s : State) : Host.Outcome State Fault Refusal :=
  .next (arriveRequest .terminal (queuedOf tag (.readBooking sel)) s)

/-- FIND_BOOKING: the request arrives, is taken in its turn and answered (log 3) (R75). -/
def execFindBooking (tag : Byte) (code : Text) (kind : BookingKind) (s : State) : Host.Outcome State Fault Refusal :=
  .next (arriveRequest .terminal (queuedOf tag (.findBooking code kind)) s)

/-- LOAD_WINDOW: the request arrives, is taken in its turn and answered (log 3) (R77). -/
def execLoadWindow (tag : Byte) (index start length capacity : Nat) (s : State) : Host.Outcome State Fault Refusal :=
  .next (arriveRequest .terminal (queuedOf tag (.loadWindow index start length capacity)) s)

/-- REMOVE_WINDOW: the request arrives, is taken in its turn and answered (log 3) (R78). -/
def execRemoveWindow (tag : Byte) (index : Nat) (s : State) : Host.Outcome State Fault Refusal :=
  .next (arriveRequest .terminal (queuedOf tag (.removeWindow index)) s)

/-- READ_WINDOW: the request arrives, is taken in its turn and answered (log 3) (R78). -/
def execReadWindow (tag : Byte) (index : Nat) (s : State) : Host.Outcome State Fault Refusal :=
  .next (arriveRequest .terminal (queuedOf tag (.readWindow index)) s)

/-- SET_CLOCK: the request arrives, is taken in its turn and answered (log 3) (R81). -/
def execSetClock (tag : Byte) (minute second : Nat) (s : State) : Host.Outcome State Fault Refusal :=
  .next (arriveRequest .terminal (queuedOf tag (.setClock minute second)) s)

/-- READ_CLOCK: the request arrives, is taken in its turn and answered (log 3) (R81). -/
def execReadClock (tag : Byte) (s : State) : Host.Outcome State Fault Refusal :=
  .next (arriveRequest .terminal (queuedOf tag .readClock) s)

/-- SET_SLACK: the request arrives, is taken in its turn and answered (log 3) (R82). -/
def execSetSlack (tag : Byte) (early late : Nat) (s : State) : Host.Outcome State Fault Refusal :=
  .next (arriveRequest .terminal (queuedOf tag (.setSlack early late)) s)

/-- LOAD_CLOSURE: the request arrives, is taken in its turn and answered (log 3) (R98). -/
def execLoadClosure (tag : Byte) (code : Text) (seals : List Text) (s : State) : Host.Outcome State Fault Refusal :=
  .next (arriveRequest .terminal (queuedOf tag (.loadClosure code seals)) s)

/-- REMOVE_CLOSURE: the request arrives, is taken in its turn and answered (log 3) (R101). -/
def execRemoveClosure (tag : Byte) (code : Text) (s : State) : Host.Outcome State Fault Refusal :=
  .next (arriveRequest .terminal (queuedOf tag (.removeClosure code)) s)

/-- SET_RETAIN: the request arrives, is taken in its turn and answered (log 3) (R97). -/
def execSetRetain (tag : Byte) (code : Text) (value : Bool) (s : State) : Host.Outcome State Fault Refusal :=
  .next (arriveRequest .terminal (queuedOf tag (.setRetain code value)) s)

/-- READ_CLOSURE: the request arrives, is taken in its turn and answered (log 3) (R102). -/
def execReadClosure (tag : Byte) (sel : ClosureSel) (s : State) : Host.Outcome State Fault Refusal :=
  .next (arriveRequest .terminal (queuedOf tag (.readClosure sel)) s)

/-- WRITE_RULE: the request arrives, is taken in its turn and answered (log 3) (R120). -/
def execWriteRule (tag : Byte) (index : Nat) (rule : Rule) (s : State) : Host.Outcome State Fault Refusal :=
  .next (arriveRequest .terminal (queuedOf tag (.writeRule index rule)) s)

/-- READ_RULE: the request arrives, is taken in its turn and answered (log 3) (R128). -/
def execReadRule (tag : Byte) (index : Nat) (s : State) : Host.Outcome State Fault Refusal :=
  .next (arriveRequest .terminal (queuedOf tag (.readRule index)) s)

/-- READ_SWEEP: the request arrives, is taken in its turn and answered (log 3) (R128). -/
def execReadSweep (tag : Byte) (lane : Nat) (s : State) : Host.Outcome State Fault Refusal :=
  .next (arriveRequest .terminal (queuedOf tag (.readSweep lane)) s)

/-- WRITE_DIRECTION: the request arrives, is taken in its turn and answered (log 3) (R132). -/
def execWriteDirection (tag : Byte) (index : Nat) (entry : Direction) (s : State) : Host.Outcome State Fault Refusal :=
  .next (arriveRequest .terminal (queuedOf tag (.writeDirection index entry)) s)

/-- CLEAR_DIRECTION: the request arrives, is taken in its turn and answered (log 3) (R132). -/
def execClearDirection (tag : Byte) (index : Nat) (s : State) : Host.Outcome State Fault Refusal :=
  .next (arriveRequest .terminal (queuedOf tag (.clearDirection index)) s)

/-- READ_DIRECTION: the request arrives, is taken in its turn and answered (log 3) (R132). -/
def execReadDirection (tag : Byte) (index : Nat) (s : State) : Host.Outcome State Fault Refusal :=
  .next (arriveRequest .terminal (queuedOf tag (.readDirection index)) s)

/-- WRITE_MESSAGE: the request arrives, is taken in its turn and answered (log 3) (R134). -/
def execWriteMessage (tag : Byte) (index : Nat) (items : Text) (s : State) : Host.Outcome State Fault Refusal :=
  .next (arriveRequest .terminal (queuedOf tag (.writeMessage index items)) s)

/-- READ_MESSAGE: the request arrives, is taken in its turn and answered (log 3) (R134). -/
def execReadMessage (tag : Byte) (index : Nat) (s : State) : Host.Outcome State Fault Refusal :=
  .next (arriveRequest .terminal (queuedOf tag (.readMessage index)) s)

/-- TRAIL_FREEZE: the request arrives, is taken in its turn and answered (log 3) (R144). -/
def execTrailFreeze (tag : Byte) (s : State) : Host.Outcome State Fault Refusal :=
  .next (arriveRequest .terminal (queuedOf tag .trailFreeze) s)

/-- TRAIL_READ: the request arrives, is taken in its turn and answered (log 3) (R145). -/
def execTrailRead (tag : Byte) (s : State) : Host.Outcome State Fault Refusal :=
  .next (arriveRequest .terminal (queuedOf tag .trailRead) s)

/-- TRAIL_THAW: the request arrives, is taken in its turn and answered (log 3) (R144). -/
def execTrailThaw (tag : Byte) (s : State) : Host.Outcome State Fault Refusal :=
  .next (arriveRequest .terminal (queuedOf tag .trailThaw) s)

/-- ADD_HOLD: the request arrives, is taken in its turn and answered (log 3) (R149). -/
def execAddHold (link : Link) (tag : Byte) (code : Text) (kind : HoldKind) (ref : Nat) (s : State) : Host.Outcome State Fault Refusal :=
  .next (arriveRequest link (queuedOf tag (.addHold code kind ref)) s)

/-- REMOVE_HOLD: the request arrives, is taken in its turn and answered (log 3) (R150). -/
def execRemoveHold (link : Link) (tag : Byte) (code : Text) (s : State) : Host.Outcome State Fault Refusal :=
  .next (arriveRequest link (queuedOf tag (.removeHold code)) s)

/-- READ_HOLD: the request arrives, is taken in its turn and answered (log 3) (R150). -/
def execReadHold (link : Link) (tag : Byte) (sel : HoldSel) (s : State) : Host.Outcome State Fault Refusal :=
  .next (arriveRequest link (queuedOf tag (.readHold sel)) s)

/-- AUTH_READ_VISIT: the request arrives, is taken in its turn and answered (log 3) (R160). -/
def execAuthReadVisit (tag : Byte) (sel : VisitSel) (s : State) : Host.Outcome State Fault Refusal :=
  .next (arriveRequest .authority (queuedOf tag (.readVisit sel)) s)

/-- RAISE_NOTICE: the request arrives, is taken in its turn and answered (log 3) (R156). -/
def execRaiseNotice (link : Link) (tag : Byte) (flags : BitVec 16) (s : State) : Host.Outcome State Fault Refusal :=
  .next (arriveRequest link (queuedOf tag (.raiseNotice flags)) s)

/-- CLEAR_NOTICE: the request arrives, is taken in its turn and answered (log 3) (R156). -/
def execClearNotice (link : Link) (tag : Byte) (flags : BitVec 16) (s : State) : Host.Outcome State Fault Refusal :=
  .next (arriveRequest link (queuedOf tag (.clearNotice flags)) s)

/-- MASK_NOTICE: the request arrives, is taken in its turn and answered (log 3) (R156). -/
def execMaskNotice (link : Link) (tag : Byte) (flags : BitVec 16) (s : State) : Host.Outcome State Fault Refusal :=
  .next (arriveRequest link (queuedOf tag (.maskNotice flags)) s)

/-- UNMASK_NOTICE: the request arrives, is taken in its turn and answered (log 3) (R156). -/
def execUnmaskNotice (link : Link) (tag : Byte) (flags : BitVec 16) (s : State) : Host.Outcome State Fault Refusal :=
  .next (arriveRequest link (queuedOf tag (.unmaskNotice flags)) s)

/-- READ_NOTICE: the request arrives, is taken in its turn and answered (log 3) (R156). -/
def execReadNotice (link : Link) (tag : Byte) (s : State) : Host.Outcome State Fault Refusal :=
  .next (arriveRequest link (queuedOf tag .readNotice) s)

/-- WRITE_SLOT: the request arrives, is taken in its turn and answered (log 3) (R159). -/
def execWriteSlot (link : Link) (tag : Byte) (slot : Nat) (bytes : List Byte) (s : State) : Host.Outcome State Fault Refusal :=
  .next (arriveRequest link (queuedOf tag (.writeSlot slot bytes)) s)

/-- READ_SLOT: the request arrives, is taken in its turn and answered (log 3) (R159). -/
def execReadSlot (link : Link) (tag : Byte) (slot : Nat) (s : State) : Host.Outcome State Fault Refusal :=
  .next (arriveRequest link (queuedOf tag (.readSlot slot)) s)

/-- SET_EVENT_ENABLE: the request arrives, is taken in its turn and answered (log 3) (R168). -/
def execSetEventEnable (tag : Byte) (kinds : BitVec 16) (s : State) : Host.Outcome State Fault Refusal :=
  .next (arriveRequest .terminal (queuedOf tag (.setEventEnable kinds)) s)

/-- READ_STATUS: the request arrives, is taken in its turn and answered (log 3) (R172). -/
def execReadStatus (tag : Byte) (s : State) : Host.Outcome State Fault Refusal :=
  .next (arriveRequest .terminal (queuedOf tag .readStatus) s)

/-- RESTART: the request arrives, is taken in its turn and answered (log 3) (R173). -/
def execRestart (tag : Byte) (s : State) : Host.Outcome State Fault Refusal :=
  .next (arriveRequest .terminal (queuedOf tag .restart) s)

/-- CLEAR_FAULTS: the request arrives, is taken in its turn and answered (log 3) (R179). -/
def execClearFaults (tag : Byte) (port : Nat) (kinds : BitVec 16) (s : State) : Host.Outcome State Fault Refusal :=
  .next (arriveRequest .terminal (queuedOf tag (.clearFaults port kinds)) s)

/-- SET_FAULT_MASK: the request arrives, is taken in its turn and answered (log 3) (R180). -/
def execSetFaultMask (tag : Byte) (port : Nat) (kinds : BitVec 16) (s : State) : Host.Outcome State Fault Refusal :=
  .next (arriveRequest .terminal (queuedOf tag (.setFaultMask port kinds)) s)

/-- SET_FAULT_SEVERITY: the request arrives, is taken in its turn and answered (log 3) (R180). -/
def execSetFaultSeverity (tag : Byte) (port : Nat) (kinds : BitVec 16) (s : State) : Host.Outcome State Fault Refusal :=
  .next (arriveRequest .terminal (queuedOf tag (.setFaultSeverity port kinds)) s)

/-- READ_FAULTS: the request arrives, is taken in its turn and answered (log 3) (R181). -/
def execReadFaults (tag : Byte) (port : Nat) (s : State) : Host.Outcome State Fault Refusal :=
  .next (arriveRequest .terminal (queuedOf tag (.readFaults port)) s)

/-- UNKNOWN_REQUEST: a request whose code its link may not know, well framed (log 3) (R165). -/
def execUnknownRequest (link : Link) (tag code : Byte) (body : List Byte) (s : State) : Host.Outcome State Fault Refusal :=
  .next (arriveRequest link ⟨tag, code, body, parseRequest code body⟩ s)

end Sys2Proof.Machine
end

