-- ==== Sys2Proof/Machine/Dispatch.lean ====
section
/-! DEFINITION. The meaning of each command: one arm per constructor of Instr. -/

namespace Sys2Proof.Machine

/-- The effect of a command on everything but the queue of commands. -/
def exec (i : Instr) (s : State) : Host.Outcome State Fault Refusal :=
  match i with
  | .powerOnReset => Sys2Proof.Machine.execPowerOnReset s
  | .resetLine => Sys2Proof.Machine.execResetLine s
  | .tick => Sys2Proof.Machine.execTick s
  | .gateClockSecond => Sys2Proof.Machine.execGateClockSecond s
  | .laneLineDown lane => Sys2Proof.Machine.execLaneLineDown lane s
  | .laneLineUp lane => Sys2Proof.Machine.execLaneLineUp lane s
  | .laneIdleTimeout lane => Sys2Proof.Machine.execLaneIdleTimeout lane s
  | .laneLengthOverrun lane cls seq len => Sys2Proof.Machine.execLaneLengthOverrun lane cls seq len s
  | .visitFrameReceived lane bytes => Sys2Proof.Machine.execVisitFrameReceived lane bytes s
  | .ready lane seq unit => Sys2Proof.Machine.execReady lane seq unit s
  | .ackSign lane seq echo => Sys2Proof.Machine.execAckSign lane seq echo s
  | .ackBarrier lane seq echo position => Sys2Proof.Machine.execAckBarrier lane seq echo position s
  | .laneTxComplete lane => Sys2Proof.Machine.execLaneTxComplete lane s
  | .signTimeout lane => Sys2Proof.Machine.execSignTimeout lane s
  | .applyArrive lane => Sys2Proof.Machine.execApplyArrive lane s
  | .applyPlate lane => Sys2Proof.Machine.execApplyPlate lane s
  | .applyCard lane => Sys2Proof.Machine.execApplyCard lane s
  | .applyCode lane => Sys2Proof.Machine.execApplyCode lane s
  | .applyClosure lane => Sys2Proof.Machine.execApplyClosure lane s
  | .applyFind lane => Sys2Proof.Machine.execApplyFind lane s
  | .applySweepEnd lane => Sys2Proof.Machine.execApplySweepEnd lane s
  | .applyClear lane => Sys2Proof.Machine.execApplyClear lane s
  | .readWindowExpiry lane => Sys2Proof.Machine.execReadWindowExpiry lane s
  | .checkWindowExpiry lane => Sys2Proof.Machine.execCheckWindowExpiry lane s
  | .barrierStall lane => Sys2Proof.Machine.execBarrierStall lane s
  | .warmupExpiry lane => Sys2Proof.Machine.execWarmupExpiry lane s
  | .mgmtLengthOverrun link kind tag high low => Sys2Proof.Machine.execMgmtLengthOverrun link kind tag high low s
  | .mgmtIdleTimeout link => Sys2Proof.Machine.execMgmtIdleTimeout link s
  | .mgmtFrameReceived link bytes => Sys2Proof.Machine.execMgmtFrameReceived link bytes s
  | .terminalLinkDown => Sys2Proof.Machine.execTerminalLinkDown s
  | .terminalLinkUp => Sys2Proof.Machine.execTerminalLinkUp s
  | .authLinkDown => Sys2Proof.Machine.execAuthLinkDown s
  | .authLinkUp => Sys2Proof.Machine.execAuthLinkUp s
  | .terminalTxComplete => Sys2Proof.Machine.execTerminalTxComplete s
  | .authTxComplete => Sys2Proof.Machine.execAuthTxComplete s
  | .openLane tag lane dir => Sys2Proof.Machine.execOpenLane tag lane dir s
  | .setDirection tag lane dir => Sys2Proof.Machine.execSetDirection tag lane dir s
  | .closeLane tag lane => Sys2Proof.Machine.execCloseLane tag lane s
  | .stepLane tag lane => Sys2Proof.Machine.execStepLane tag lane s
  | .resumeLane tag lane => Sys2Proof.Machine.execResumeLane tag lane s
  | .resetLane tag lane => Sys2Proof.Machine.execResetLane tag lane s
  | .readLane tag lane => Sys2Proof.Machine.execReadLane tag lane s
  | .writeProfile tag index fields => Sys2Proof.Machine.execWriteProfile tag index fields s
  | .readProfile tag index => Sys2Proof.Machine.execReadProfile tag index s
  | .assignProfile tag lane index => Sys2Proof.Machine.execAssignProfile tag lane index s
  | .setVerdict tag lane verdict => Sys2Proof.Machine.execSetVerdict tag lane verdict s
  | .resolve tag visit outcome => Sys2Proof.Machine.execResolve tag visit outcome s
  | .cancelVisit tag visit => Sys2Proof.Machine.execCancelVisit tag visit s
  | .readVisit tag sel => Sys2Proof.Machine.execReadVisit tag sel s
  | .setBays tag count => Sys2Proof.Machine.execSetBays tag count s
  | .writePolicy tag reason cls => Sys2Proof.Machine.execWritePolicy tag reason cls s
  | .readPolicy tag => Sys2Proof.Machine.execReadPolicy tag s
  | .loadBooking tag fields => Sys2Proof.Machine.execLoadBooking tag fields s
  | .cancelBooking tag ref => Sys2Proof.Machine.execCancelBooking tag ref s
  | .purgeBooking tag ref => Sys2Proof.Machine.execPurgeBooking tag ref s
  | .readBooking tag sel => Sys2Proof.Machine.execReadBooking tag sel s
  | .findBooking tag code kind => Sys2Proof.Machine.execFindBooking tag code kind s
  | .loadWindow tag index start length capacity => Sys2Proof.Machine.execLoadWindow tag index start length capacity s
  | .removeWindow tag index => Sys2Proof.Machine.execRemoveWindow tag index s
  | .readWindow tag index => Sys2Proof.Machine.execReadWindow tag index s
  | .setClock tag minute second => Sys2Proof.Machine.execSetClock tag minute second s
  | .readClock tag => Sys2Proof.Machine.execReadClock tag s
  | .setSlack tag early late => Sys2Proof.Machine.execSetSlack tag early late s
  | .loadClosure tag code seals => Sys2Proof.Machine.execLoadClosure tag code seals s
  | .removeClosure tag code => Sys2Proof.Machine.execRemoveClosure tag code s
  | .setRetain tag code value => Sys2Proof.Machine.execSetRetain tag code value s
  | .readClosure tag sel => Sys2Proof.Machine.execReadClosure tag sel s
  | .writeRule tag index rule => Sys2Proof.Machine.execWriteRule tag index rule s
  | .readRule tag index => Sys2Proof.Machine.execReadRule tag index s
  | .readSweep tag lane => Sys2Proof.Machine.execReadSweep tag lane s
  | .writeDirection tag index entry => Sys2Proof.Machine.execWriteDirection tag index entry s
  | .clearDirection tag index => Sys2Proof.Machine.execClearDirection tag index s
  | .readDirection tag index => Sys2Proof.Machine.execReadDirection tag index s
  | .writeMessage tag index items => Sys2Proof.Machine.execWriteMessage tag index items s
  | .readMessage tag index => Sys2Proof.Machine.execReadMessage tag index s
  | .trailFreeze tag => Sys2Proof.Machine.execTrailFreeze tag s
  | .trailRead tag => Sys2Proof.Machine.execTrailRead tag s
  | .trailThaw tag => Sys2Proof.Machine.execTrailThaw tag s
  | .addHold link tag code kind ref => Sys2Proof.Machine.execAddHold link tag code kind ref s
  | .removeHold link tag code => Sys2Proof.Machine.execRemoveHold link tag code s
  | .readHold link tag sel => Sys2Proof.Machine.execReadHold link tag sel s
  | .authReadVisit tag sel => Sys2Proof.Machine.execAuthReadVisit tag sel s
  | .raiseNotice link tag flags => Sys2Proof.Machine.execRaiseNotice link tag flags s
  | .clearNotice link tag flags => Sys2Proof.Machine.execClearNotice link tag flags s
  | .maskNotice link tag flags => Sys2Proof.Machine.execMaskNotice link tag flags s
  | .unmaskNotice link tag flags => Sys2Proof.Machine.execUnmaskNotice link tag flags s
  | .readNotice link tag => Sys2Proof.Machine.execReadNotice link tag s
  | .writeSlot link tag slot bytes => Sys2Proof.Machine.execWriteSlot link tag slot bytes s
  | .readSlot link tag slot => Sys2Proof.Machine.execReadSlot link tag slot s
  | .setEventEnable tag kinds => Sys2Proof.Machine.execSetEventEnable tag kinds s
  | .readStatus tag => Sys2Proof.Machine.execReadStatus tag s
  | .restart tag => Sys2Proof.Machine.execRestart tag s
  | .clearFaults tag port kinds => Sys2Proof.Machine.execClearFaults tag port kinds s
  | .setFaultMask tag port kinds => Sys2Proof.Machine.execSetFaultMask tag port kinds s
  | .setFaultSeverity tag port kinds => Sys2Proof.Machine.execSetFaultSeverity tag port kinds s
  | .readFaults tag port => Sys2Proof.Machine.execReadFaults tag port s
  | .unknownRequest link tag code body => Sys2Proof.Machine.execUnknownRequest link tag code body s

end Sys2Proof.Machine
end

