-- ==== Sys2Proof/Safety.lean ====
section
/-! DEFINITION. What the statements speak of: links open for a request, answers, and the invariants that every step keeps. -/

namespace Sys2Proof.Machine

/-! ### Links -/

/-- Every transmitter that could send has chosen, and no request waits beside an empty reply holding place (R18, R147, R158, R164, R170). -/
def Quiet (s : State) : Prop := settle s = s ∧ ∀ k : Link, (s.link k).reply = none → (s.link k).queue = []

/-- The part is quiet, the link is UP and its reply holding place is empty: a request that arrives is taken at once (R147, R164). -/
def OpenLink (k : Link) (s : State) : Prop := Quiet s ∧ (s.link k).state = .up ∧ (s.link k).reply = none

/-- The state with a reply in a link's reply holding place (R164). -/
def State.replied (s : State) (k : Link) (r : Reply) : State := s.modLink k fun m => { m with reply := some r }

/-- The state after a reply was formed on a link of a part that sends nothing else: in transmission where the transmitter was free,
else in the reply holding place (R164, R170). -/
def State.answered (s : State) (k : Link) (r : Reply) : State :=
  s.modLink k fun m =>
    match m.tx with
    | none => { m with tx := some (.reply r), reply := none }
    | some _ => { m with reply := some r }

/-- The reply of a link is on its way: in its holding place, or its transmission begun (R166, R170). -/
def Answered (k : Link) (r : Reply) (s : State) : Prop := (s.link k).reply = some r ∨ (s.link k).tx = some (.reply r)

/-! ### Lines that hear, heads that may be applied -/

/-- The part is quiet, and the lane's line is UP with its receiver in HUNTING (R4, R5). -/
def Hearing (l : LaneId) (s : State) : Prop := Quiet s ∧ (s.lane l).port.line = .up ∧ (s.lane l).port.rx = []

/-- The part is quiet, and the link is UP with its receiver in HUNTING (R162). -/
def HearingLink (k : Link) (s : State) : Prop := Quiet s ∧ (s.link k).state = .up ∧ (s.link k).rx = []

/-- The sequence follows the last inbound sequence, or none is present (R7). -/
def InSequence (l : LaneId) (q : Byte) (s : State) : Prop := ∀ n : Byte, (s.lane l).port.lastIn = some n → q = n + 1

/-- The head of the lane's receive queue is the frame `f` with contents `c`, and may be applied (R29). -/
def HeadReady (l : LaneId) (f : LaneFrame) (c : InFrame) (s : State) : Prop :=
  Quiet s ∧
  ((s.lane l).lcu.mode = .openIn ∨ (s.lane l).lcu.mode = .openOut ∨
    ((s.lane l).lcu.mode = .draining ∧ ∃ p, s.bound l = some p)) ∧
  (s.lane l).lcu.holds = 0 ∧ l ∉ s.parked ∧ (s.lane l).port.queue.head? = some f ∧ f.content = .visit c

/-! ### Requests and their answers -/

/-- The command is answered on the link with `r` and has exactly the effect `u`; nothing else is sent (R164, R166, R170). -/
def Answers (k : Link) (c : Instr) (s : State) (r : Reply) (u : State) : Prop := exec c s = .next (u.answered k r)

/-- The command is answered on the link with `r` and has the effect `u`, after which every transmitter that is free sends (R164, R166,
R18, R158, R170). -/
def Sends (k : Link) (c : Instr) (s : State) (r : Reply) (u : State) : Prop := exec c s = .next (settle (u.replied k r))

/-- The link, tag and request of a command that is a request's arrival (log 3); none for the other commands. -/
def requestOf : Instr → Option (Link × Byte × Request)
  | .openLane tag lane dir => some (.terminal, tag, .openLane lane dir)
  | .setDirection tag lane dir => some (.terminal, tag, .setDirection lane dir)
  | .closeLane tag lane => some (.terminal, tag, .closeLane lane)
  | .stepLane tag lane => some (.terminal, tag, .stepLane lane)
  | .resumeLane tag lane => some (.terminal, tag, .resumeLane lane)
  | .resetLane tag lane => some (.terminal, tag, .resetLane lane)
  | .readLane tag lane => some (.terminal, tag, .readLane lane)
  | .writeProfile tag index fields => some (.terminal, tag, .writeProfile index fields)
  | .readProfile tag index => some (.terminal, tag, .readProfile index)
  | .assignProfile tag lane index => some (.terminal, tag, .assignProfile lane index)
  | .setVerdict tag lane verdict => some (.terminal, tag, .setVerdict lane verdict)
  | .resolve tag visit outcome => some (.terminal, tag, .resolve visit outcome)
  | .cancelVisit tag visit => some (.terminal, tag, .cancelVisit visit)
  | .readVisit tag sel => some (.terminal, tag, .readVisit sel)
  | .setBays tag count => some (.terminal, tag, .setBays count)
  | .writePolicy tag reason cls => some (.terminal, tag, .writePolicy reason cls)
  | .loadBooking tag fields => some (.terminal, tag, .loadBooking fields)
  | .cancelBooking tag ref => some (.terminal, tag, .cancelBooking ref)
  | .purgeBooking tag ref => some (.terminal, tag, .purgeBooking ref)
  | .readBooking tag sel => some (.terminal, tag, .readBooking sel)
  | .findBooking tag code kind => some (.terminal, tag, .findBooking code kind)
  | .loadWindow tag index start length capacity => some (.terminal, tag, .loadWindow index start length capacity)
  | .removeWindow tag index => some (.terminal, tag, .removeWindow index)
  | .readWindow tag index => some (.terminal, tag, .readWindow index)
  | .setClock tag minute second => some (.terminal, tag, .setClock minute second)
  | .setSlack tag early late => some (.terminal, tag, .setSlack early late)
  | .loadClosure tag code seals => some (.terminal, tag, .loadClosure code seals)
  | .removeClosure tag code => some (.terminal, tag, .removeClosure code)
  | .setRetain tag code value => some (.terminal, tag, .setRetain code value)
  | .readClosure tag sel => some (.terminal, tag, .readClosure sel)
  | .writeRule tag index rule => some (.terminal, tag, .writeRule index rule)
  | .readRule tag index => some (.terminal, tag, .readRule index)
  | .readSweep tag lane => some (.terminal, tag, .readSweep lane)
  | .writeDirection tag index entry => some (.terminal, tag, .writeDirection index entry)
  | .clearDirection tag index => some (.terminal, tag, .clearDirection index)
  | .readDirection tag index => some (.terminal, tag, .readDirection index)
  | .writeMessage tag index items => some (.terminal, tag, .writeMessage index items)
  | .readMessage tag index => some (.terminal, tag, .readMessage index)
  | .addHold link tag code kind ref => some (link, tag, .addHold code kind ref)
  | .removeHold link tag code => some (link, tag, .removeHold code)
  | .readHold link tag sel => some (link, tag, .readHold sel)
  | .authReadVisit tag sel => some (.authority, tag, .readVisit sel)
  | .raiseNotice link tag flags => some (link, tag, .raiseNotice flags)
  | .clearNotice link tag flags => some (link, tag, .clearNotice flags)
  | .maskNotice link tag flags => some (link, tag, .maskNotice flags)
  | .unmaskNotice link tag flags => some (link, tag, .unmaskNotice flags)
  | .writeSlot link tag slot bytes => some (link, tag, .writeSlot slot bytes)
  | .readSlot link tag slot => some (link, tag, .readSlot slot)
  | .setEventEnable tag kinds => some (.terminal, tag, .setEventEnable kinds)
  | .clearFaults tag port kinds => some (.terminal, tag, .clearFaults port kinds)
  | .setFaultMask tag port kinds => some (.terminal, tag, .setFaultMask port kinds)
  | .setFaultSeverity tag port kinds => some (.terminal, tag, .setFaultSeverity port kinds)
  | .readFaults tag port => some (.terminal, tag, .readFaults port)
  | .readPolicy tag => some (.terminal, tag, .readPolicy)
  | .readClock tag => some (.terminal, tag, .readClock)
  | .trailFreeze tag => some (.terminal, tag, .trailFreeze)
  | .trailRead tag => some (.terminal, tag, .trailRead)
  | .trailThaw tag => some (.terminal, tag, .trailThaw)
  | .readNotice link tag => some (link, tag, .readNotice)
  | .readStatus tag => some (.terminal, tag, .readStatus)
  | .restart tag => some (.terminal, tag, .restart)
  | _ => none

/-! ### What a command leaves as it is -/

/-- The lane whose line, queue or timers a command acts on; none for the other commands. -/
def laneActedOn : Instr → Option LaneId
  | .laneLineDown l => some l
  | .laneLineUp l => some l
  | .laneIdleTimeout l => some l
  | .laneLengthOverrun l _ _ _ => some l
  | .visitFrameReceived l _ => some l
  | .ready l _ _ => some l
  | .ackSign l _ _ => some l
  | .ackBarrier l _ _ _ => some l
  | .laneTxComplete l => some l
  | .signTimeout l => some l
  | .applyArrive l => some l
  | .applyPlate l => some l
  | .applyCard l => some l
  | .applyCode l => some l
  | .applyClosure l => some l
  | .applyFind l => some l
  | .applySweepEnd l => some l
  | .applyClear l => some l
  | .readWindowExpiry l => some l
  | .checkWindowExpiry l => some l
  | .barrierStall l => some l
  | .warmupExpiry l => some l
  | _ => none

/-- What the terminal and the authority load and the traffic of the lanes never writes: of the windows, bookings and closures, what is not
counted or held by the gate itself. -/
structure Loaded where
  pending : List Instr
  profiles : Vector Profile 8
  bayCount : Nat
  policy : Vector PolicyClass 19
  bookings : List (Nat × Nat × BookingKind × Text × Option Text × Option Text × ClosureReq × Nat)
  windows : Vector (Option (Nat × Nat × Nat)) 64
  clock : Option Clock
  slack : Nat × Nat
  closures : List (Nat × Text × List Text × Bool)
  rules : Vector Rule 16
  directions : Vector (Option Direction) 64
  messages : Vector Text 128
  frozen : Bool
  cursor : Option Nat
  holdList : Table HoldEntry
  masks : BitVec 16 × BitVec 16
  termWord : BitVec 16
  slots : Vector (List Byte) 8
  enables : BitVec 16
  resetCause : ResetCause

/-- What is loaded of a booking. -/
def Booking.loaded (b : Booking) : Nat × BookingKind × Text × Option Text × Option Text × ClosureReq × Nat :=
  (b.ref, b.kind, b.code, b.card, b.plate, b.closure, b.yard)

/-- What is loaded of a window. -/
def Window.loaded (w : Window) : Nat × Nat × Nat := (w.start, w.length, w.capacity)

/-- What is loaded of a Closure Table entry. -/
def ClosureEntry.loaded (e : ClosureEntry) : Text × List Text × Bool := (e.code, e.seals, e.retain)

/-- What is loaded in a state. -/
def State.loaded (s : State) : Loaded where
  pending := s.pending
  profiles := s.profiles
  bayCount := s.bayCount
  policy := s.policy
  bookings := s.bookings.map fun p => (p.1, p.2.loaded)
  windows := s.windows.map (Option.map Window.loaded)
  clock := s.clock
  slack := (s.earlySlack, s.lateSlack)
  closures := s.closures.map fun p => (p.1, p.2.loaded)
  rules := s.rules
  directions := s.directions
  messages := s.messages
  frozen := s.frozen
  cursor := s.cursor
  holdList := s.holdList
  masks := (s.authMask, s.termMask)
  termWord := s.termWord
  slots := s.slots
  enables := s.enables
  resetCause := s.resetCause

/-! ### Invariants -/

/-- No queue holds more than its size (R11, R141, R147, R164, R167). -/
def QueuesBounded (s : State) : Prop :=
  (∀ l : LaneId, (s.lane l).port.queue.length ≤ Config.receiveQueueSize) ∧
  s.term.queue.length ≤ Config.terminalQueueSize ∧ s.auth.queue.length ≤ Config.authorityQueueSize ∧
  s.records.length ≤ Config.recordQueueSize ∧ s.trail.length ≤ Config.trailSize

/-- The target modes a lane may have in a mode (02, section 2.1). -/
def targetLegal (m : LaneMode) (t : Option LaneMode) : Bool :=
  match m, t with
  | .warming, some .openIn | .warming, some .openOut => true
  | .draining, some .openIn | .draining, some .openOut | .draining, some .closed => true
  | .closed, none | .openIn, none | .openOut, none => true
  | _, _ => false

/-- A lane is held only in OPEN_IN, OPEN_OUT or DRAINING (R33a), and its target mode is one its mode may have (02, section 2.1). -/
def LanesLegal (s : State) : Prop :=
  ∀ l : LaneId, ((s.lane l).lcu.holds ≠ 0 → modeHoldable (s.lane l).lcu.mode = true) ∧
    targetLegal (s.lane l).lcu.mode (s.lane l).lcu.target = true

/-- Every header log holds at most 16 bytes, and while a pointer names a kind its log is not stale (R177). -/
def FaultsLegal (s : State) : Prop :=
  ∀ p : PortId, (s.faults.get p).log.length ≤ Config.headerBytes ∧
    ((s.faults.get p).pointer ≠ none → (s.faults.get p).stale = false)

/-- The T2 counts do not pass 65535 (R36). -/
def DwellBounded (s : State) : Prop := ∀ (l : LaneId) (n : Nat), (s.lane l).lcu.t2 = some n → n ≤ Config.t2Max

/-- The Gate Clock, while SET, has a minute up to 1,048,575 and a second up to 59 (R80). -/
def ClockLegal (s : State) : Prop := ∀ c : Clock, s.clock = some c → c.minute ≤ Config.lastMinute ∧ c.second < 60

/-- A table's indices rise strictly and lie below its number of places (R70, R94, R148). -/
def Table.Ordered {α : Type} (places : Nat) (t : Table α) : Prop := t.Pairwise (fun p q => p.1 < q.1) ∧ ∀ p ∈ t, p.1 < places

/-- The Booking Table, the Closure Table and the Hold List stand in ascending index within their places (R70, R94, R148). -/
def TablesOrdered (s : State) : Prop :=
  Table.Ordered Config.bookingPlaces s.bookings ∧ Table.Ordered Config.closurePlaces s.closures ∧
  Table.Ordered Config.holdPlaces s.holdList

/-- A link that is DOWN holds no request and no reply and sends nothing (R161, R171). -/
def LinksLegal (s : State) : Prop :=
  ∀ k : Link, (s.link k).state = .down → (s.link k).queue = [] ∧ (s.link k).reply = none ∧ (s.link k).tx = none

/-! ### Visits, and what they hold -/

/-- The state of a visit that is bound to a lane (R45). -/
def stateBinds : VisitState → Bool
  | .identifying | .checking | .waitingBay | .directed => true
  | .free | .referred | .closing => false

/-- A visit that may hold a bay: REFER given, and DIRECTED or REFERRED (R57, R58, R59). -/
def Visit.needsBay (x : Visit) : Prop := x.verdict = some .refer ∧ (x.state = .directed ∨ x.state = .referred)

/-- What holds of each open visit: its number in range (R46), a lane exactly in the four bound states (R45), a verdict once it is placed
(R57), REFER while it waits for a bay (R59) or is REFERRED (R61, R62), a bay exactly where REFER has one (R58, R59), a formed record exactly in CLOSING (R67), and carried entries in position order at
positions its load class permits (R49). -/
def Visit.legal (x : Visit) : Prop :=
  (1 ≤ x.number ∧ x.number ≤ 65535) ∧ (x.lane ≠ none ↔ stateBinds x.state = true) ∧
  (x.state = .directed → x.verdict ≠ none) ∧ ((x.state = .waitingBay ∨ x.state = .referred) → x.verdict = some .refer) ∧
  (x.bay ≠ none ↔ x.needsBay) ∧ (x.record ≠ none ↔ x.state = .closing) ∧
  (x.carried.Pairwise fun d e => d.position.toCode < e.position.toCode) ∧
  ∀ e ∈ x.carried, positionPermitted x.load e.position = true

/-- Numbers are unique among open visits, a lane binds one visit at most, and no bay is held twice or beyond the count (R45, R58). -/
def VisitsDistinct (s : State) : Prop :=
  (∀ (v w : VisitIx) (x y : Visit), s.visit v = some x → s.visit w = some y →
    (x.number = y.number ∨ (x.lane ≠ none ∧ x.lane = y.lane) ∨ (x.bay ≠ none ∧ x.bay = y.bay)) → v = w) ∧
  ∀ (v : VisitIx) (x : Visit) (b : Nat), s.visit v = some x → x.bay = some b → b < s.bayCount

/-- The Parked Arrival Queue holds each lane once, open, not held, with no bound visit and an ARRIVE at its head, and is empty while a
visit record is FREE (R47). -/
def ParkedLegal (s : State) : Prop :=
  s.parked.Nodup ∧ (s.parked ≠ [] → ∀ v : VisitIx, s.visit v ≠ none) ∧
  ∀ l ∈ s.parked, modeIsOpen (s.lane l).lcu.mode = true ∧ (s.lane l).lcu.holds = 0 ∧ s.bound l = none ∧
    ∃ (f : LaneFrame) (load : LoadClass), (s.lane l).port.queue.head? = some f ∧ f.content = .visit (.arrive load)

/-- The Bay Wait Queue holds just the visits in WAITING_BAY, each once, and is empty while a bay is FREE (R59); the CLOSING visits stand in
their order, each once, and only while the Record Queue is full (R67). -/
def WaitersLegal (s : State) : Prop :=
  s.bayWait.Nodup ∧ (∀ v : VisitIx, v ∈ s.bayWait ↔ ∃ x : Visit, s.visit v = some x ∧ x.state = .waitingBay) ∧
  (s.bayWait ≠ [] → s.freeBay = none) ∧
  s.closing.Nodup ∧ (∀ v : VisitIx, v ∈ s.closing ↔ ∃ x : Visit, s.visit v = some x ∧ x.state = .closing) ∧
  (s.closing ≠ [] → Config.recordQueueSize ≤ s.records.length)

/-- The law of visits: binding, numbers, bays and queues (R45, R46, R47, R58, R59, R67). -/
def VisitsLegal (s : State) : Prop :=
  (∀ (v : VisitIx) (x : Visit), s.visit v = some x → x.legal) ∧ VisitsDistinct s ∧ ParkedLegal s ∧ WaitersLegal s

/-- No AUTH_HOLD in a record that says its visit left ADMITTED or REJECTED (R155). -/
def GateRecord.holdLegal (r : GateRecord) : Prop :=
  (r.outcome = .admitted ∨ r.outcome = .rejected) → hasBit r.reasons (Reason.toCode .authHold) = false

/-- The law of authority holds on an open visit: no verdict before its checks are done (R45, R56), none but REFER with AUTH_HOLD (R56, R64,
R153), AUTH_HOLD wherever a carried container has a standing entry past IDENTIFYING (R151, R152), each code-valid flag that of its code (R1,
R49), and the same of the record it formed (R155). -/
def Visit.holdLegal (s : State) (x : Visit) : Prop :=
  x.state ≠ .free ∧ ((x.state = .identifying ∨ x.state = .checking) → x.verdict = none) ∧
  (∀ vd : Verdict, x.hasReason .authHold = true → x.verdict = some vd → vd = .refer) ∧
  (x.state ≠ .identifying → x.state ≠ .closing → s.standingHold x = true → x.hasReason .authHold = true) ∧
  (∀ e ∈ x.carried, e.codeValid = codeValid e.code) ∧ ∀ r : GateRecord, x.record = some r → r.holdLegal

/-- The law of authority holds: valid codes in the Hold List (R149), every open visit and every record queued under it (R155). -/
def HoldsLegal (s : State) : Prop :=
  (∀ p ∈ s.holdList, codeValid p.2.code = true) ∧ (∀ p ∈ s.records, p.2.holdLegal) ∧
  ∀ (v : VisitIx) (x : Visit), s.visit v = some x → x.holdLegal s

/-- The bookings that count in a window: those that name it in another state than CANCELLED (R76). -/
def State.countedIn (s : State) (i : Nat) : Nat := (s.bookings.filter fun p => p.2.window == i && p.2.state != .cancelled).length

/-- The used count of every loaded window is the number of bookings that count in it and within its capacity; every booking that counts
names a loaded window (R76); a HELD booking was held from OPEN or ENTERED (R71), and the bookings a visit lists are HELD for it (R92). -/
def BookingsCounted (s : State) : Prop :=
  (∀ (i : Nat) (w : Window), s.window i = some w → w.used = s.countedIn i ∧ w.used ≤ w.capacity) ∧
  (∀ p ∈ s.bookings, p.2.state ≠ .cancelled → s.window p.2.window ≠ none) ∧
  (∀ p ∈ s.bookings, ∀ st : BookingState, p.2.heldFrom = some st → st = .opened ∨ st = .entered) ∧
  ∀ (v : VisitIx) (x : Visit) (i : Nat), s.visit v = some x → i ∈ x.listed →
    ∃ b : Booking, Table.lookup s.bookings i = some b ∧ b.state = .held ∧ b.holder = some x.number

/-- The carried entries of open visits that name a Closure Table index (R96). -/
def State.pinsOn (s : State) (i : Nat) : Nat :=
  (allVisits.flatMap fun v => match s.visit v with | some x => x.carried.filter fun e => e.closureIx == some i | none => []).length

/-- The pin count of every Closure Table entry is the number of carried entries that name it, and every index named is occupied (R96);
an index is named neither before CHECKING nor in CLOSING (R103, R67), nor by an entry that awaits its record, which it does only in
CHECKING (R100, R107). -/
def PinsCounted (s : State) : Prop :=
  (∀ p ∈ s.closures, p.2.pins = s.pinsOn p.1) ∧
  ∀ (v : VisitIx) (x : Visit), s.visit v = some x → ∀ e ∈ x.carried,
    (∀ i : Nat, e.closureIx = some i → Table.lookup s.closures i ≠ none) ∧
    (e.closureIx ≠ none → x.state ≠ .identifying ∧ x.state ≠ .closing) ∧
    (e.closure = .awaitingRecord → e.closureIx = none ∧ x.state = .checking)

/-! ### Records formed and granted -/

/-- The Gate Transaction Record of a visit with an outcome and a T2 clear capture (R66). -/
def recordOf (s : State) (x : Visit) (o : CloseOutcome) (t2 : Option Nat) : GateRecord where
  number := x.number
  lane := x.grantLane
  dir := x.dir
  outcome := o
  plate := x.plate.map fun p => p.1
  card := x.card
  carried := x.carried.map fun e =>
    { position := e.position, code := e.code
      booking := e.booking.bind fun i => (Table.lookup s.bookings i).map fun b => b.ref
      closure := e.closure, damage := e.damage, fired := e.fired, findings := e.findings, worst := e.worst, reslot := e.reslot }
  picks := x.picks.filterMap fun i => (Table.lookup s.bookings i).map fun b => b.ref
  reasons := x.reasons
  arrival := x.arrival
  t2Verdict := x.t2Verdict
  t2Clear := t2
  bay := x.lastBay
  holdsSeen := x.holdsSeen
  undirected := x.undirected

/-- The lane `m` is the oldest of the Parked Arrival Queue, before the lanes `rest`, its ARRIVE carrying the load class (R47). -/
def ParkedFirst (m : LaneId) (rest : List LaneId) (load : LoadClass) (s : State) : Prop :=
  s.parked = m :: rest ∧ ∃ f : LaneFrame, (s.lane m).port.queue.head? = some f ∧ f.content = .visit (.arrive load)

/-- From `s` to `u` the visit record `v` was granted to the lane's ARRIVE: the visit opens with a number no other open visit holds, the ARRIVE
leaves the queue, T2 starts from 0 and T0 with the read window (R46, R47). -/
def GrantedTo (m : LaneId) (v : VisitIx) (load : LoadClass) (s u : State) : Prop :=
  (∃ y : Visit, u.visit v = some y ∧ y.lane = some m ∧ y.grantLane = m ∧ y.state = .identifying ∧ y.load = load ∧
    y.carried = [] ∧ y.reasons = 0 ∧ y.arrival = s.clock.map (fun c => c.minute) ∧
    ∀ (w : VisitIx) (z : Visit), w ≠ v → s.visit w = some z → y.number ≠ z.number) ∧
  (u.lane m).port.queue = (s.lane m).port.queue.drop 1 ∧
  (u.lane m).lcu.t2 = some 0 ∧ (u.lane m).lcu.t0 = some ((s.profileOf m).readWindow, .read)

/-- Every bay is held, visit `v` alone holds bay `b`, and visit `w`, bound to a lane and without a bay, heads the Bay Wait Queue, `v` not in
it (R58, R59). -/
def LastBay (v w : VisitIx) (b : Nat) (rest : List VisitIx) (s : State) : Prop :=
  b < s.bayCount ∧ s.freeBay = none ∧ s.bayWait = w :: rest ∧ v ∉ w :: rest ∧
  (∃ x : Visit, s.visit v = some x ∧ x.bay = some b) ∧
  (∀ (z : VisitIx) (x : Visit), z ≠ v → s.visit z = some x → x.bay ≠ some b) ∧
  ∃ y : Visit, s.visit w = some y ∧ y.lane ≠ none ∧ y.bay = none

/-- Visit `w` left the head of the Bay Wait Queue with bay `b` and entered DIRECTED; the other waiters keep their order (R59). -/
def BayGranted (w : VisitIx) (b : Nat) (rest : List VisitIx) (u : State) : Prop :=
  u.bayWait = rest ∧
  ∃ y : Visit, u.visit w = some y ∧ y.bay = some b ∧ y.lastBay = some b ∧ y.state = .directed

end Sys2Proof.Machine
end

