-- ==== Sys2Proof/Certificates/Slice0/Obligations.lean ====
section
/-! DEFINITION. The statements for the provers, one per obligation of OBLIGATIONS.json, in its order.

Wherever a statement answers BAD_VALUE to a number above what its field in the frame can carry, or to a text longer than its field, that part
is the model's choice (log 16). -/

open Sys2Proof Sys2Proof.Machine

/-! ## The queue of commands and the resets -/

/-- A step takes the command at the front of the queue and runs it with the queue's rest; with none waiting the part idles (the model's
choice, log 1 and 2). Every command answers a next state, in every state. -/
def Obligations.StepRunsTheFrontCommand : Prop :=
  (∀ (s : State) (c : Instr) (rest : List Instr), s.pending = c :: rest → step s = exec c { s with pending := rest }) ∧
  (∀ (s : State) (c : Instr), step (s.withCommand c) = exec c s) ∧
  (∀ s : State, s.pending = [] → step s = .next s) ∧
  ∀ (c : Instr) (s : State), ∃ t : State, exec c s = .next t

/-- POWER_ON_RESET and RESET_LINE leave every block at the values its chapter gives for them; the lines, the links and the waiting
commands stay (log 4), and dirAcked is clear (log 14). -/
def Obligations.PowerOnAndResetLine : Prop :=
  ∀ s : State, ∃ t : State,
    exec .powerOnReset s = .next t ∧ exec .resetLine s = .next { t with resetCause := .resetLine } ∧
    t.resetCause = .powerOn ∧ t.pending = s.pending ∧
    (∀ l : LaneId, t.lane l =
      { port :=
          { line := (s.lane l).port.line, rx := [], lastIn := none, queue := [], hpBarrier := none, hpShow := none, hpSweep := none,
            hpReread := none, hpWake := false, outSeq := 0, tx := none, signWait := none, signTimer := none, collision := false,
            lastBarrierSeq := none, reported := none }
        lcu :=
          { mode := .closed, target := none, ready := 0, holds := 0, pendingDir := false, audit := 0, barrier := .down, profile := 0,
            t0 := none, t1 := none, t2 := none, t3 := none }
        sweep := { phase := .idle, next := 0, last := none, lastEnd := none, info := none }
        dirRef := none, dirAcked := false }) ∧
    (∀ i : Fin 8, t.profiles.get i =
      { required := 0b11001111#8, warmup := 300, readWindow := 80, checkWindow := 300, barrierWindow := 200, signAck := 10,
        reread := true, plateThreshold := 80, codeThreshold := 80, audit := 0, rules := 0, panels := 0b111111#8 }) ∧
    (∀ v : VisitIx, t.visit v = none) ∧ t.visitCounter = 0 ∧ t.parked = [] ∧ t.bayCount = 4 ∧ t.bayWait = [] ∧ t.closing = [] ∧
    t.policy.toList =
      [.reject, .reject, .refer, .refer, .refer, .refer, .refer, .refer, .refer, .note, .reject, .refer, .refer, .refer, .refer,
       .refer, .note, .refer, .refer] ∧
    t.bookings = [] ∧ (∀ i : Nat, t.window i = none) ∧ t.clock = none ∧ t.earlySlack = 30 ∧ t.lateSlack = 15 ∧
    t.closures = [] ∧ t.recency = [] ∧
    (∀ i : Fin 16, t.rules.get i =
      { enabled := false, a := { panels := 0b111111#8, defects := 0b111111#8, measure := .severity, condition := .gt, value := 15 },
        b := none, combine := .either, tolerance := 0, action := .minor }) ∧
    (∀ i : Fin 64, t.directions.get i = none) ∧
    t.message 0 = [0x50, 0x4C, 0x45, 0x41, 0x53, 0x45, 0x20, 0x57, 0x41, 0x49, 0x54] ∧ (∀ i : Nat, i ≠ 0 → t.message i = []) ∧
    t.trail = [] ∧ t.serial = 0 ∧ t.frozen = false ∧ t.cursor = none ∧
    t.holdList = [] ∧ t.authWord = 0 ∧ t.authMask = 0 ∧ t.termWord = 0 ∧ t.termMask = 0 ∧
    (∀ i : Fin 8, t.slots.get i = List.replicate 32 0) ∧
    t.auth = { state := s.auth.state, rx := [], queue := [], reply := none, tx := none } ∧ t.attention = false ∧
    t.term = { state := s.term.state, rx := [], queue := [], reply := none, tx := none } ∧
    t.records = [] ∧ t.recordTag = 0 ∧ (∀ i : Fin 9, t.events.get i = 0) ∧ t.enables = 0x1FF#16 ∧ t.turnRecord = false ∧
    ∀ p : PortId, t.faults.get p =
      { status := 0, mask := 0, severity := if p.val < 16 then 0x088#16 else 0, pointer := none, log := [], stale := false }

/-- The state right after reset is that of POWER_ON_RESET with every line UP (log 4) and no command waiting, and it meets the invariants. -/
def Obligations.InvariantsHoldAtReset : Prop :=
  exec .powerOnReset State.reset = .next State.reset ∧ State.reset.pending = [] ∧ (∀ l : LaneId, (State.reset.lane l).port.line = .up) ∧
  State.reset.auth.state = .up ∧ State.reset.term.state = .up ∧
  Quiet State.reset ∧ QueuesBounded State.reset ∧ LanesLegal State.reset ∧ FaultsLegal State.reset ∧ DwellBounded State.reset ∧
  ClockLegal State.reset ∧ TablesOrdered State.reset ∧ LinksLegal State.reset ∧ VisitsLegal State.reset ∧
  BookingsCounted State.reset ∧ PinsCounted State.reset ∧ HoldsLegal State.reset

/-! ## Time -/

/-- A tick counts every timer that runs and the Gate Clock's ticks, and nothing else; a second of the Gate Clock is counted once 10 ticks
have passed (the ticks' own command and the count of ticks are the model's, log 5). -/
def Obligations.TicksAndSeconds : Prop :=
  (∀ s : State, Quiet s → ∃ t : State, exec .tick s = .next t ∧ t = { s with lanes := t.lanes, clock := t.clock } ∧
    (t.clock = s.clock.map fun c => { c with ticks := c.ticks + 1 }) ∧
    ∀ l : LaneId, t.lane l =
      { s.lane l with
        port := { (s.lane l).port with
          signTimer := if (s.lane l).lcu.holds = 0 then (s.lane l).port.signTimer.map (fun n => n - 1) else (s.lane l).port.signTimer }
        lcu := { (s.lane l).lcu with
          t0 := if (s.lane l).lcu.holds = 0 then (s.lane l).lcu.t0.map (fun p => (p.1 - 1, p.2)) else (s.lane l).lcu.t0
          t1 := if (s.lane l).lcu.holds = 0 then (s.lane l).lcu.t1.map (fun n => n - 1) else (s.lane l).lcu.t1
          t2 := (s.lane l).lcu.t2.map (fun n => if n < 65535 then n + 1 else 65535)
          t3 := (s.lane l).lcu.t3.map (fun n => n - 1) } }) ∧
  (∀ s : State, Quiet s → s.clock = none → exec .gateClockSecond s = .next s) ∧
  (∀ (s : State) (c : Clock), Quiet s → s.clock = some c → c.ticks < 10 → exec .gateClockSecond s = .next s) ∧
  (∀ (s : State) (c : Clock), Quiet s → s.clock = some c → 10 ≤ c.ticks → c.second < 59 →
    exec .gateClockSecond s = .next { s with clock := some { c with second := c.second + 1, ticks := c.ticks - 10 } }) ∧
  (∀ (s : State) (c : Clock), Quiet s → s.clock = some c → 10 ≤ c.ticks → c.second = 59 → c.minute < 1048575 →
    exec .gateClockSecond s = .next { s with clock := some { minute := c.minute + 1, second := 0, ticks := c.ticks - 10 } }) ∧
  (∀ (s : State) (c : Clock), Quiet s → s.clock = some c → 10 ≤ c.ticks → c.second = 59 → c.minute = 1048575 →
    exec .gateClockSecond s = .next { s with clock := some { minute := 0, second := 0, ticks := c.ticks - 10 } })

/-! ## Lane lines and frames -/

/-- A lane line goes DOWN: a frame in transmission is lost, one being received is MALFORMED; UP: the last inbound sequence becomes absent
and what the holding places hold is sent again. A frame cut short by idle line or by a length above 120 is MALFORMED with the bytes received,
the receiver hunts, and the last inbound sequence and the receive queue stay. That a line already in the state named and an idle time with
nothing being received change nothing is the model's choice (log 1), and that LANE_LENGTH_OVERRUN with a permitted length begins a frame (log 12). -/
def Obligations.LaneLinesAndCutFrames : Prop :=
  (∀ (s : State) (l : LaneId), Quiet s → (s.lane l).port.line = .up → (s.lane l).port.rx = [] →
    exec (.laneLineDown l) s = .next (s.modPort l fun p => { p with line := .down, tx := none })) ∧
  (∀ (s : State) (l : LaneId), Quiet s → (s.lane l).port.line = .up → (s.lane l).port.rx ≠ [] → ∃ t : State,
    exec (.laneLineDown l) s = .next t ∧ (t.lane l).port.line = .down ∧ (t.lane l).port.tx = none ∧ (t.lane l).port.rx = [] ∧
    (t.lane l).port.lastIn = (s.lane l).port.lastIn ∧ (t.lane l).port.queue = (s.lane l).port.queue ∧
    (t.lane l).port.signWait = (s.lane l).port.signWait ∧ (t.lane l).lcu.mode = (s.lane l).lcu.mode ∧
    t.faults.get (lanePort l) = (s.faults.get (lanePort l)).note .malformed (s.lane l).port.rx) ∧
  (∀ (s : State) (l : LaneId), Quiet s → (s.lane l).port.line = .down → exec (.laneLineDown l) s = .next s) ∧
  (∀ (s : State) (l : LaneId), Quiet s → (s.lane l).port.line = .down →
    exec (.laneLineUp l) s = .next (settle (s.modPort l fun p => { p with line := .up, lastIn := none }))) ∧
  (∀ (s : State) (l : LaneId), Quiet s → (s.lane l).port.line = .up → exec (.laneLineUp l) s = .next s) ∧
  (∀ (s : State) (l : LaneId), Quiet s → (s.lane l).port.rx ≠ [] → ∃ t : State, exec (.laneIdleTimeout l) s = .next t ∧
    (t.lane l).port.rx = [] ∧ (t.lane l).port.lastIn = (s.lane l).port.lastIn ∧ (t.lane l).port.queue = (s.lane l).port.queue ∧
    t.faults.get (lanePort l) = (s.faults.get (lanePort l)).note .malformed (s.lane l).port.rx) ∧
  (∀ (s : State) (l : LaneId), Quiet s → (s.lane l).port.rx = [] → exec (.laneIdleTimeout l) s = .next s) ∧
  (∀ (s : State) (l : LaneId) (c q n : Byte), Hearing l s → 120 < n.toNat → ∃ t : State,
    exec (.laneLengthOverrun l c q n) s = .next t ∧
    (t.lane l).port.rx = [] ∧ (t.lane l).port.lastIn = (s.lane l).port.lastIn ∧ (t.lane l).port.queue = (s.lane l).port.queue ∧
    t.faults.get (lanePort l) = (s.faults.get (lanePort l)).note .malformed [0xA5, c, q, n]) ∧
  ∀ (s : State) (l : LaneId) (c q n : Byte), Hearing l s → n.toNat ≤ 120 →
    exec (.laneLengthOverrun l c q n) s = .next (s.modPort l fun p => { p with rx := [0xA5, c, q, n] })

/-- A visit-bearing frame in sequence that finds its lane not CLOSED and its queue not full joins the queue's tail, and nothing else
changes but the last inbound sequence; one that shows a gap is taken all the same. A complete lane frame that is not taken is recorded under its
kind and joins no queue: BAD_CHECK (its sequence not used), UNKNOWN_CLASS, MALFORMED, UNEXPECTED in CLOSED, RX_OVERFLOW with the queue full.
A payload is of its class exactly when it is laid out as 11.2 has it, its fields in their ranges; any other of a visit-bearing class is MALFORMED. -/
def Obligations.VisitFramesReceived : Prop :=
  (∀ (s : State) (l : LaneId) (f : LaneFrame) (c : InFrame), Hearing l s → f.payload.length ≤ 120 → f.content = .visit c →
    InSequence l f.seq s → (s.lane l).lcu.mode ≠ .closed → (s.lane l).port.queue.length < 16 →
    exec (.visitFrameReceived l f.wire) s =
      .next (s.modPort l fun p => { p with queue := p.queue ++ [f], lastIn := some f.seq })) ∧
  (∀ (s : State) (l : LaneId) (f : LaneFrame) (c : InFrame), Hearing l s → f.payload.length ≤ 120 → f.content = .visit c →
    ¬ InSequence l f.seq s → (s.lane l).lcu.mode ≠ .closed → (s.lane l).port.queue.length < 16 → ∃ t : State,
    exec (.visitFrameReceived l f.wire) s = .next t ∧ (t.lane l).port.queue = (s.lane l).port.queue ++ [f] ∧
    (t.lane l).port.lastIn = some f.seq ∧
    t.faults.get (lanePort l) = (s.faults.get (lanePort l)).note .seqGap f.wire) ∧
  (∀ (s : State) (l : LaneId) (c q n : Byte) (bs : List Byte), Hearing l s → n.toNat ≤ 120 → bs.length = n.toNat + 2 →
    (LaneFrame.wire ⟨c, q, bs.take n.toNat⟩) ≠ 0xA5 :: c :: q :: n :: bs → ∃ t : State,
    exec (.visitFrameReceived l (0xA5 :: c :: q :: n :: bs)) s = .next t ∧ (t.lane l).port.queue = (s.lane l).port.queue ∧
    (t.lane l).port.lastIn = (s.lane l).port.lastIn ∧
    t.faults.get (lanePort l) = (s.faults.get (lanePort l)).note .badCheck (0xA5 :: c :: q :: n :: bs)) ∧
  (∀ (s : State) (l : LaneId) (f : LaneFrame), Hearing l s → f.payload.length ≤ 120 → f.content = .unknownClass →
    InSequence l f.seq s → ∃ t : State,
    exec (.visitFrameReceived l f.wire) s = .next t ∧ (t.lane l).port.queue = (s.lane l).port.queue ∧
    (t.lane l).port.lastIn = some f.seq ∧
    t.faults.get (lanePort l) = (s.faults.get (lanePort l)).note .unknownClass f.wire) ∧
  (∀ (s : State) (l : LaneId) (f : LaneFrame), Hearing l s → f.payload.length ≤ 120 → f.content = .malformed →
    InSequence l f.seq s → ∃ t : State,
    exec (.visitFrameReceived l f.wire) s = .next t ∧ (t.lane l).port.queue = (s.lane l).port.queue ∧
    (t.lane l).port.lastIn = some f.seq ∧
    t.faults.get (lanePort l) = (s.faults.get (lanePort l)).note .malformed f.wire) ∧
  (∀ (s : State) (l : LaneId) (f : LaneFrame) (c : InFrame), Hearing l s → f.payload.length ≤ 120 → f.content = .visit c →
    InSequence l f.seq s → (s.lane l).lcu.mode = .closed → ∃ t : State,
    exec (.visitFrameReceived l f.wire) s = .next t ∧ (t.lane l).port.queue = (s.lane l).port.queue ∧
    (t.lane l).port.lastIn = some f.seq ∧ (t.lane l).lcu = (s.lane l).lcu ∧
    t.faults.get (lanePort l) = (s.faults.get (lanePort l)).note .unexpected f.wire) ∧
  (∀ (s : State) (l : LaneId) (f : LaneFrame) (c : InFrame), Hearing l s → f.payload.length ≤ 120 → f.content = .visit c →
    InSequence l f.seq s → (s.lane l).lcu.mode ≠ .closed → 16 ≤ (s.lane l).port.queue.length → ∃ t : State,
    exec (.visitFrameReceived l f.wire) s = .next t ∧ (t.lane l).port.queue = (s.lane l).port.queue ∧
    (t.lane l).port.lastIn = some f.seq ∧
    t.faults.get (lanePort l) = (s.faults.get (lanePort l)).note .rxOverflow f.wire) ∧
  -- the payloads of 11.2
  (∀ (f : LaneFrame) (c : InFrame), f.content = .visit c ↔
    match c with
    | .arrive a => f.cls = 1 ∧ f.payload = num 1 a.toCode
    | .plate n t => f.cls = 2 ∧ n ≤ 100 ∧ plateOk t = true ∧ f.payload = num 1 n ++ textBytes t
    | .card t => f.cls = 3 ∧ cardOk t = true ∧ f.payload = textBytes t
    | .code p n t => f.cls = 4 ∧ n ≤ 100 ∧ codeForm t = true ∧ f.payload = num 1 p.toCode ++ num 1 n ++ t
    | .closure p src g n t => f.cls = 5 ∧ n ≤ 100 ∧ sealOk t = true ∧ (src = .tag ↔ g ≠ none) ∧ f.payload =
        num 1 p.toCode ++ num 1 src.toCode ++ (match g with | some g => num 1 g.toCode | none => []) ++ num 1 n ++ textBytes t
    | .find k p pa z d sv x => f.cls = 6 ∧ z ≤ 15 ∧ sv ≤ 15 ∧ x ≤ 1023 ∧ f.payload =
        num 2 k.toNat ++ num 1 p.toCode ++ num 1 pa.toCode ++ num 1 z ++ num 1 d.toCode ++ num 1 sv ++ num 2 x
    | .sweepEnd k st n => f.cls = 7 ∧ n ≤ 1023 ∧ f.payload = num 2 k.toNat ++ num 1 st.toCode ++ num 2 n
    | .clear => f.cls = 8 ∧ f.payload = []) ∧
  (∀ f : LaneFrame, 1 ≤ f.cls.toNat → f.cls.toNat ≤ 8 → (∀ c : InFrame, f.content ≠ .visit c) → f.content = .malformed) ∧
  ∀ f : LaneFrame, f.cls = 0 ∨ 10 < f.cls.toNat → f.content = .unknownClass

/-- A READY in sequence adds its unit kind to the ready set in every mode; in WARMING a set that then holds every required kind opens the
lane; a unit that is no unit kind is MALFORMED. -/
def Obligations.ReadyFrames : Prop :=
  (∀ (s : State) (l : LaneId) (q u : Byte), Hearing l s → InSequence l q s → u.toNat < 8 →
    hasBit (s.lane l).lcu.ready u.toNat = true →
    exec (.ready l q u) s = .next (s.modPort l fun p => { p with lastIn := some q })) ∧
  (∀ (s : State) (l : LaneId) (q u : Byte), Hearing l s → InSequence l q s → u.toNat < 8 →
    hasBit (s.lane l).lcu.ready u.toNat = false →
    ((s.lane l).lcu.mode ≠ .warming ∨ subMask (s.profileOf l).required (addBit (s.lane l).lcu.ready u.toNat) = false) →
    exec (.ready l q u) s =
      .next (s.modLane l fun x =>
        { x with port := { x.port with lastIn := some q }, lcu := { x.lcu with ready := addBit x.lcu.ready u.toNat } })) ∧
  (∀ (s : State) (l : LaneId) (q u : Byte) (m : LaneMode), Hearing l s → InSequence l q s → u.toNat < 8 →
    hasBit (s.lane l).lcu.ready u.toNat = false → (s.lane l).lcu.mode = .warming → (s.lane l).lcu.target = some m →
    subMask (s.profileOf l).required (addBit (s.lane l).lcu.ready u.toNat) = true →
    exec (.ready l q u) s =
      .next (settle (raiseEvent .laneMode (lanePort l) (s.modLane l fun x =>
        { x with
          port := { x.port with lastIn := some q }
          lcu := { x.lcu with
            ready := addBit x.lcu.ready u.toNat, mode := m, target := none, t3 := none, audit := (s.profileOf l).audit } })))) ∧
  ∀ (s : State) (l : LaneId) (q u : Byte), Hearing l s → InSequence l q s → 8 ≤ u.toNat → ∃ t : State,
    exec (.ready l q u) s = .next t ∧ (t.lane l).lcu.ready = (s.lane l).lcu.ready ∧ (t.lane l).port.lastIn = some q ∧
    t.faults.get (lanePort l) = (s.faults.get (lanePort l)).note .malformed (LaneFrame.wire ⟨0x09, q, [u]⟩)

/-- An ACK of the sign that names the SHOW awaited ends the sign wait and hands on its trail mark; one of the barrier that echoes the last
barrier sequence gives the reported position; any other is UNEXPECTED. -/
def Obligations.Acknowledgements : Prop :=
  (∀ (s : State) (l : LaneId) (q e : Byte) (w : SignWait), Hearing l s → InSequence l q s → (s.lane l).port.signWait = some w →
    w.seq = e → w.shown.mark = none →
    exec (.ackSign l q e) s =
      .next (settle (s.modPort l fun p => { p with lastIn := some q, signWait := none, signTimer := none }))) ∧
  (∀ (s : State) (l : LaneId) (q e : Byte) (w : SignWait) (m : TrailMark), Hearing l s → InSequence l q s →
    (s.lane l).port.signWait = some w → w.seq = e → w.shown.mark = some m →
    exec (.ackSign l q e) s =
      .next (settle
        { (s.modLane l fun x =>
            { x with
              port := { x.port with lastIn := some q, signWait := none, signTimer := none }
              dirAcked := x.dirAcked || (s.boundNumber l == some m.visit && x.port.hpShow.isNone) }) with
          trail := s.trail.map fun n => if m.serial = some n.serial then { n with shown := true } else n })) ∧
  (∀ (s : State) (l : LaneId) (q e : Byte), Hearing l s → InSequence l q s →
    (∀ w : SignWait, (s.lane l).port.signWait = some w → w.seq ≠ e) → ∃ t : State, exec (.ackSign l q e) s = .next t ∧
    (t.lane l).port.lastIn = some q ∧ t.trail = s.trail ∧
    t.faults.get (lanePort l) = (s.faults.get (lanePort l)).note .unexpected (LaneFrame.wire ⟨0x0A, q, [6, e]⟩)) ∧
  (∀ (s : State) (l : LaneId) (q e p : Byte), Hearing l s → InSequence l q s → (s.lane l).port.lastBarrierSeq = some e →
    p.toNat < 2 →
    exec (.ackBarrier l q e p) s =
      .next (s.modPort l fun x => { x with lastIn := some q, reported := some (if p = 0 then .up else .down) })) ∧
  (∀ (s : State) (l : LaneId) (q e p : Byte), Hearing l s → InSequence l q s → (s.lane l).port.lastBarrierSeq ≠ some e →
    p.toNat < 2 → ∃ t : State, exec (.ackBarrier l q e p) s = .next t ∧ (t.lane l).port.lastIn = some q ∧
    (t.lane l).port.reported = (s.lane l).port.reported ∧
    t.faults.get (lanePort l) = (s.faults.get (lanePort l)).note .unexpected (LaneFrame.wire ⟨0x0A, q, [7, e, p]⟩)) ∧
  ∀ (s : State) (l : LaneId) (q e p : Byte), Hearing l s → InSequence l q s → 2 ≤ p.toNat → ∃ t : State,
    exec (.ackBarrier l q e p) s = .next t ∧ (t.lane l).port.lastIn = some q ∧
    (t.lane l).port.reported = (s.lane l).port.reported ∧
    t.faults.get (lanePort l) = (s.faults.get (lanePort l)).note .malformed (LaneFrame.wire ⟨0x0A, q, [7, e, p]⟩)

/-- A free lane transmitter on an UP line sends the first occupied place in the order BARRIER, SHOW (passed over in a sign wait),
SWEEP/STOP, REREAD, WAKE, with the next outbound sequence; a DOWN line or a busy transmitter sends nothing; a completed frame frees it.
The payloads are those of 11.2. -/
def Obligations.LaneTransmitter : Prop :=
  (∀ (s : State) (l : LaneId), Quiet s →
    exec (.laneTxComplete l) s = .next (settle (s.modPort l fun p => { p with tx := none }))) ∧
  (∀ (s : State) (l : LaneId), (settle s).lane l =
    { s.lane l with port := (s.lane l).port.transmit (s.profileOf l).signAck }) ∧
  (∀ (a : Nat) (p : Port), (p.line = .down ∨ p.tx ≠ none) → p.transmit a = p) ∧
  (∀ (a : Nat) (p : Port) (c : BarrierCmd), p.line = .up → p.tx = none → p.hpBarrier = some c →
    p.transmit a =
      { p with
        tx := some ⟨0x23, p.outSeq, [match c with | .raise => 0 | .lower => 1]⟩
        outSeq := p.outSeq + 1, hpBarrier := none, lastBarrierSeq := some p.outSeq }) ∧
  (∀ (a : Nat) (p : Port) (w : Show), p.line = .up → p.tx = none → p.hpBarrier = none → p.hpShow = some w → p.signWait = none →
    p.transmit a =
      { p with
        tx := some ⟨0x22, p.outSeq, w.payload⟩, outSeq := p.outSeq + 1, hpShow := none
        signWait := some ⟨p.outSeq, w⟩, signTimer := some a }) ∧
  (∀ (a : Nat) (p : Port) (w : SweepFrame), p.line = .up → p.tx = none → p.hpBarrier = none →
    (p.hpShow = none ∨ p.signWait ≠ none) → p.hpSweep = some w →
    p.transmit a = { p with tx := some (w.frame p.outSeq), outSeq := p.outSeq + 1, hpSweep := none }) ∧
  (∀ (a : Nat) (p : Port) (u : BitVec 8), p.line = .up → p.tx = none → p.hpBarrier = none →
    (p.hpShow = none ∨ p.signWait ≠ none) → p.hpSweep = none → p.hpReread = some u →
    p.transmit a = { p with tx := some ⟨0x26, p.outSeq, [u]⟩, outSeq := p.outSeq + 1, hpReread := none }) ∧
  (∀ (a : Nat) (p : Port), p.line = .up → p.tx = none → p.hpBarrier = none →
    (p.hpShow = none ∨ p.signWait ≠ none) → p.hpSweep = none → p.hpReread = none → p.hpWake = true →
    p.transmit a = { p with tx := some ⟨0x21, p.outSeq, []⟩, outSeq := p.outSeq + 1, hpWake := false }) ∧
  (∀ (a : Nat) (p : Port), p.hpBarrier = none → (p.hpShow = none ∨ p.signWait ≠ none) → p.hpSweep = none → p.hpReread = none →
    p.hpWake = false → p.transmit a = p) ∧
  (∀ w : Show, w.payload = num 1 w.arrow.toCode ++ num 1 w.text.length ++ w.text) ∧
  ∀ (n : BitVec 16) (ps pn : BitVec 8) (q : Byte),
    (SweepFrame.sweep n ps pn).frame q = ⟨0x24, q, num 2 n.toNat ++ [ps, pn]⟩ ∧ (SweepFrame.stop n).frame q = ⟨0x25, q, num 2 n.toNat⟩

/-! ## Expiries -/

/-- The lane's timers that run out on their own: the sign-ACK timer (SIGN_TIMEOUT with the SHOW as sent, the sign wait ended, FAULT among the
hold causes at LANE severity, and all of it whether or not another occurrence was taken first and holds the lane), T1 (LOWER, the barrier-down
flag, STALL) and T3 (CLOSED, WARMUP_FAIL). That an expiry's command changes nothing before its count has run out is the model's choice (log 1,
log 5). -/
def Obligations.LaneTimerExpiries : Prop :=
  (∀ (s : State) (l : LaneId) (w : SignWait), Quiet s → (s.lane l).port.signWait = some w → (s.lane l).port.signTimer = some 0 →
    ∃ u : State, exec (.signTimeout l) s = .next (settle u) ∧
    (u.lane l).port.signWait = none ∧ (u.lane l).port.signTimer = none ∧
    u.faults.get (lanePort l) =
      (s.faults.get (lanePort l)).note .signTimeout (LaneFrame.wire ⟨0x22, w.seq, w.shown.payload⟩) ∧
    ((hasBit (s.faults.get (lanePort l)).mask 7 = false ∧ hasBit (s.faults.get (lanePort l)).severity 7 = true ∧
        modeHoldable (s.lane l).lcu.mode = true) → (u.lane l).lcu.holds = addBit (s.lane l).lcu.holds 4) ∧
    ((hasBit (s.faults.get (lanePort l)).mask 7 = true ∨ hasBit (s.faults.get (lanePort l)).severity 7 = false ∨
        modeHoldable (s.lane l).lcu.mode = false) → (u.lane l).lcu.holds = (s.lane l).lcu.holds)) ∧
  (∀ (s : State) (l : LaneId), Quiet s → ((s.lane l).port.signTimer ≠ some 0 ∨ (s.lane l).port.signWait = none) →
    exec (.signTimeout l) s = .next s) ∧
  (∀ (s : State) (l : LaneId), Quiet s → (s.lane l).lcu.t1 = some 0 → (s.lane l).lcu.holds = 0 →
    ∃ u : State, exec (.barrierStall l) s = .next (settle u) ∧
    (u.lane l).port.hpBarrier = some .lower ∧ (u.lane l).lcu.barrier = .down ∧ (u.lane l).lcu.t1 = none ∧
    (u.lane l).lcu.holds = (if modeHoldable (s.lane l).lcu.mode = true then 0b1000#8 else 0) ∧
    ∀ (v : VisitIx) (x : Visit), s.bound l = some (v, x) → u.visit v =
      some { x with
        barrierDown := true
        holdsSeen := if modeHoldable (s.lane l).lcu.mode = true then addBit x.holdsSeen 3 else x.holdsSeen }) ∧
  (∀ (s : State) (l : LaneId), Quiet s → ((s.lane l).lcu.t1 ≠ some 0 ∨ (s.lane l).lcu.holds ≠ 0) →
    exec (.barrierStall l) s = .next s) ∧
  (∀ (s : State) (l : LaneId), Quiet s → (s.lane l).lcu.t3 = some 0 → (s.lane l).lcu.mode = .warming → ∃ u : State,
    exec (.warmupExpiry l) s = .next (settle u) ∧
    (u.lane l).lcu =
      { (s.lane l).lcu with
        mode := .closed, target := none, holds := 0, pendingDir := false, barrier := .down, t0 := none, t1 := none, t3 := none } ∧
    (u.lane l).port.queue = [] ∧ (u.lane l).port.hpWake = false ∧ (u.lane l).port.hpBarrier = some .lower ∧
    (u.lane l).port.hpShow = some ⟨.noArrow, [], none⟩ ∧ l ∉ u.parked ∧
    (s.enabled .laneMode = true → u.eventFlag .laneMode (lanePort l) = true) ∧
    u.faults.get (lanePort l) = (s.faults.get (lanePort l)).note .warmupFail []) ∧
  ∀ (s : State) (l : LaneId), Quiet s → ((s.lane l).lcu.t3 ≠ some 0 ∨ (s.lane l).lcu.mode ≠ .warming) →
    exec (.warmupExpiry l) s = .next s

/-- T0 with window kind READ on a lane not held, its bound visit in IDENTIFYING: one REREAD with the missing unit set and the window
again, then READ_MISSING and CHECKING; with no such visit T0 only stops. T0 with window kind CHECK, its bound visit in CHECKING: PENDING becomes
MISSING, AWAITING_RECORD UNVERIFIED and the swept PENDING damage outcomes INCOMPLETE, each with its reason, a running sweep is stopped, and a
verdict is written. That each command changes nothing before its count has run out is the model's choice (log 1, log 5). -/
def Obligations.VisitWindowExpiries : Prop :=
  (∀ (s : State) (l : LaneId) (v : VisitIx) (x : Visit), Quiet s → (s.lane l).lcu.t0 = some (0, .read) → (s.lane l).lcu.holds = 0 →
    s.bound l = some (v, x) → x.state = .identifying → (s.profileOf l).reread = true → x.rereaded = false →
    exec (.readWindowExpiry l) s =
      .next (settle ((s.modLane l fun y =>
        { y with
          port := { y.port with
            hpReread := some ((((if x.plate = none then 2#8 else 0) ||| (if x.card = none then 4#8 else 0)) |||
              (if x.carried.length < loadCount x.load then 8#8 else 0)) ||| y.port.hpReread.getD 0) }
          lcu := { y.lcu with t0 := some ((s.profileOf l).readWindow, .read) } }).setVisit v (some { x with rereaded := true })))) ∧
  (∀ (s : State) (l : LaneId) (v : VisitIx) (x : Visit), Quiet s → (s.lane l).lcu.t0 = some (0, .read) → (s.lane l).lcu.holds = 0 →
    s.bound l = some (v, x) → x.state = .identifying → ((s.profileOf l).reread = false ∨ x.rereaded = true) →
    exec (.readWindowExpiry l) s =
      .next (settle (enterChecking l v
        ((s.modLcu l fun u => { u with t0 := none }).setVisit v (some { x with reasons := addBit x.reasons 6 }))))) ∧
  (∀ (s : State) (l : LaneId), Quiet s → (s.lane l).lcu.t0 = some (0, .read) → (s.lane l).lcu.holds = 0 →
    (∀ (v : VisitIx) (x : Visit), s.bound l = some (v, x) → x.state ≠ .identifying) →
    exec (.readWindowExpiry l) s = .next (s.modLcu l fun u => { u with t0 := none })) ∧
  (∀ (s : State) (l : LaneId), Quiet s → ((s.lane l).lcu.t0 ≠ some (0, .read) ∨ (s.lane l).lcu.holds ≠ 0) →
    exec (.readWindowExpiry l) s = .next s) ∧
  (∀ (s : State) (l : LaneId) (v : VisitIx) (x : Visit), Quiet s → (s.lane l).lcu.t0 = some (0, .check) → (s.lane l).lcu.holds = 0 →
    s.bound l = some (v, x) → x.state = .checking → ∃ (u : State) (y : Visit), exec (.checkWindowExpiry l) s = .next (settle u) ∧
    u.visit v = some y ∧ y.number = x.number ∧ (y.state = .directed ∨ y.state = .waitingBay) ∧
    y.verdict = some (composedVerdict s.policy y.reasons) ∧ y.t2Verdict = x.t2Verdict.or (s.lane l).lcu.t2 ∧
    (∀ e ∈ y.carried, e.closure ≠ .pending ∧ e.closure ≠ .awaitingRecord) ∧
    ((x.carried.map fun e => e.position).Nodup → y.carried = x.carried.map fun e =>
      { e with
        closure := (match e.closure with | .pending => .missing | .awaitingRecord => .unverified | o => o)
        damage :=
          if (s.lane l).sweep.phase = .running ∧
              (match (s.lane l).sweep.info with | some i => hasBit i.positions e.position.toCode | none => false) = true ∧
              e.damage = .pending then .incomplete
          else e.damage }) ∧
    ((∃ e ∈ x.carried, e.closure = .pending) → hasBit y.reasons 14 = true) ∧
    ((∃ e ∈ x.carried, e.closure = .awaitingRecord) → hasBit y.reasons 15 = true) ∧
    ((s.lane l).sweep.phase = .running → hasBit y.reasons 18 = true ∧ (u.lane l).sweep.lastEnd = some .stopped ∧
      (u.lane l).port.hpSweep = some (.stop ((s.lane l).sweep.last.getD 0))) ∧
    (u.lane l).sweep.phase = .idle ∧ (u.lane l).lcu.t0 = none) ∧
  ∀ (s : State) (l : LaneId), Quiet s → ((s.lane l).lcu.t0 ≠ some (0, .check) ∨ (s.lane l).lcu.holds ≠ 0) →
    exec (.checkWindowExpiry l) s = .next s

/-! ## Applying the head of a receive queue -/

/-- A head stays while its lane is held, parked, or neither open nor draining with a bound visit: the eight APPLY commands then change
nothing (a command whose occasion is absent changes nothing: the model's choice, log 1). -/
def Obligations.HeadWaits : Prop :=
  ∀ (s : State) (l : LaneId), Quiet s →
    ((s.lane l).lcu.holds ≠ 0 ∨ l ∈ s.parked ∨ (s.lane l).lcu.mode = .closed ∨ (s.lane l).lcu.mode = .warming ∨
      ((s.lane l).lcu.mode = .draining ∧ s.bound l = none) ∨ (s.lane l).port.queue = []) →
    exec (.applyArrive l) s = .next s ∧ exec (.applyPlate l) s = .next s ∧ exec (.applyCard l) s = .next s ∧
    exec (.applyCode l) s = .next s ∧ exec (.applyClosure l) s = .next s ∧ exec (.applyFind l) s = .next s ∧
    exec (.applySweepEnd l) s = .next s ∧ exec (.applyClear l) s = .next s

/-- An ARRIVE on an open lane with no bound visit is granted the lowest FREE record: the visit opens with its starting values, T2 starts
from 0 and T0 with the read window, the ARRIVE leaves the queue, and nothing else changes. The number given follows the counter, wrapping
from 65535 to 1, and is held by no open visit while a record is FREE. With no FREE record it parks its lane with the wait text and PARKED and
stays at the head; with a visit bound it is discarded as UNEXPECTED; a record that becomes FREE goes at once to the oldest parked lane. -/
def Obligations.ArriveApplied : Prop :=
  (∀ (s : State) (l : LaneId) (f : LaneFrame) (load : LoadClass) (v : VisitIx), HeadReady l f (.arrive load) s → s.bound l = none →
    s.visit v = none → (∀ w : VisitIx, w < v → s.visit w ≠ none) →
    exec (.applyArrive l) s =
      .next { (((s.modLane l fun x =>
          { x with
            port := { x.port with queue := x.port.queue.drop 1 }
            lcu := { x.lcu with t2 := some 0, t0 := some ((s.profileOf l).readWindow, .read) } }).setVisit v
          (some
            { number := s.freshNumber 24 s.visitCounter, state := .identifying, lane := some l, grantLane := l
              dir := if (s.lane l).lcu.mode = .openOut then .outGate else .inGate
              load := load, arrival := s.clock.map (fun c => c.minute), plate := none, card := none, carried := [], picks := []
              reasons := 0, verdict := none, bay := none, lastBay := none, barrierDown := false
              holdsSeen := 0, rereaded := false, undirected := false, t2Verdict := none, t2Clear := none
              record := none }))) with
        visitCounter := s.freshNumber 24 s.visitCounter }) ∧
  (∀ (s : State) (n : Nat), s.visitNumbered (if n < 65535 then n + 1 else 1) = none →
    s.freshNumber 24 n = if n < 65535 then n + 1 else 1) ∧
  (∀ (s : State) (n : Nat) (v : VisitIx), s.visit v = none →
    1 ≤ s.freshNumber 24 n ∧ s.freshNumber 24 n ≤ 65535 ∧
    ∀ (w : VisitIx) (x : Visit), s.visit w = some x → x.number ≠ s.freshNumber 24 n) ∧
  (∀ (s : State) (l : LaneId) (f : LaneFrame) (load : LoadClass), HeadReady l f (.arrive load) s → s.bound l = none →
    (∀ v : VisitIx, s.visit v ≠ none) →
    exec (.applyArrive l) s =
      .next (settle (raiseEvent .parked (lanePort l)
        { (s.modLane l fun x =>
            { x with
              port := { x.port with
                hpShow := some ⟨.noArrow, renderItems none none (s.message 0), none⟩
                collision := x.port.collision || x.port.hpShow.isSome }
              dirAcked := false }) with
          parked := s.parked ++ [l] }))) ∧
  (∀ (s : State) (l : LaneId) (f : LaneFrame) (load : LoadClass) (p : VisitIx × Visit), HeadReady l f (.arrive load) s →
    s.bound l = some p → ∃ t : State, exec (.applyArrive l) s = .next t ∧
    (t.lane l).port.queue = (s.lane l).port.queue.drop 1 ∧ t.parked = s.parked ∧
    t.faults.get (lanePort l) = (s.faults.get (lanePort l)).note .unexpected f.wire) ∧
  (∀ (s : State) (v : VisitIx) (l : LaneId) (rest : List LaneId) (f : LaneFrame) (load : LoadClass), s.parked = l :: rest →
    (s.lane l).port.queue.head? = some f → f.content = .visit (.arrive load) →
    (freeVisit v s).parked = rest ∧ ((freeVisit v s).lane l).port.queue = (s.lane l).port.queue.drop 1 ∧
    ∃ x : Visit, (freeVisit v s).visit v = some x ∧ x.lane = some l ∧ x.grantLane = l ∧ x.state = .identifying ∧ x.load = load) ∧
  ∀ (s : State) (v : VisitIx), s.parked = [] → freeVisit v s = s.setVisit v none

/-- A PLATE, CARD or CODE for a visit in IDENTIFYING: a plate is taken where none is held or its confidence is equal or higher, a card
always; a code at a position its load class has not is READ_CONFLICT, at an empty position a new carried entry in position order, at a filled one
READ_CONFLICT where both reads are at or above threshold and differ, and the read of higher confidence stands. Where that completes identity the
visit enters CHECKING, else nothing more changes. In another state or with no visit each is UNEXPECTED. -/
def Obligations.ReadsTaken : Prop :=
  (∀ (s : State) (l : LaneId) (f : LaneFrame) (conf : Nat) (t : Text) (v : VisitIx) (x : Visit),
    HeadReady l f (.plate conf t) s → s.bound l = some (v, x) → x.state = .identifying →
    ∃ y : Visit,
      ((x.plate = none ∨ ∃ (t' : Text) (c : Nat), x.plate = some (t', c) ∧ c ≤ conf) → y = { x with plate := some (t, conf) }) ∧
      ((∃ (t' : Text) (c : Nat), x.plate = some (t', c) ∧ conf < c) → y = x) ∧
      (y.identified = false →
        exec (.applyPlate l) s = .next ((s.modPort l fun p => { p with queue := p.queue.drop 1 }).setVisit v (some y))) ∧
      (y.identified = true →
        exec (.applyPlate l) s =
          .next (settle (enterChecking l v ((s.modPort l fun p => { p with queue := p.queue.drop 1 }).setVisit v (some y)))))) ∧
  (∀ (s : State) (l : LaneId) (f : LaneFrame) (t : Text) (v : VisitIx) (x : Visit),
    HeadReady l f (.card t) s → s.bound l = some (v, x) → x.state = .identifying →
    (Visit.identified { x with card := some t } = false →
      exec (.applyCard l) s =
        .next ((s.modPort l fun p => { p with queue := p.queue.drop 1 }).setVisit v (some { x with card := some t }))) ∧
    (Visit.identified { x with card := some t } = true →
      exec (.applyCard l) s =
        .next (settle (enterChecking l v
          ((s.modPort l fun p => { p with queue := p.queue.drop 1 }).setVisit v (some { x with card := some t })))))) ∧
  (∀ (s : State) (l : LaneId) (f : LaneFrame) (conf : Nat) (t : Text), HeadReady l f (.plate conf t) s →
    (∀ (v : VisitIx) (x : Visit), s.bound l = some (v, x) → x.state ≠ .identifying) → ∃ u : State,
    exec (.applyPlate l) s = .next u ∧ (u.lane l).port.queue = (s.lane l).port.queue.drop 1 ∧
    u.faults.get (lanePort l) = (s.faults.get (lanePort l)).note .unexpected f.wire) ∧
  (∀ (s : State) (l : LaneId) (f : LaneFrame) (t : Text), HeadReady l f (.card t) s →
    (∀ (v : VisitIx) (x : Visit), s.bound l = some (v, x) → x.state ≠ .identifying) → ∃ u : State,
    exec (.applyCard l) s = .next u ∧ (u.lane l).port.queue = (s.lane l).port.queue.drop 1 ∧
    u.faults.get (lanePort l) = (s.faults.get (lanePort l)).note .unexpected f.wire) ∧
  (∀ (s : State) (l : LaneId) (f : LaneFrame) (p : Position) (conf : Nat) (c : Text) (v : VisitIx) (x : Visit),
    HeadReady l f (.code p conf c) s → s.bound l = some (v, x) → x.state = .identifying →
    ∃ y : Visit,
      (positionPermitted x.load p = false → y = { x with reasons := addBit x.reasons 7 }) ∧
      (positionPermitted x.load p = true → x.entryAt p = none →
        y = { x with
          carried := insertCarried
            ({ position := p, code := c, confidence := conf, codeValid := codeValid c, booking := none, closureReq := none,
               closureIx := none, reads := [], closure := .pending, damage := .pending, fired := 0, findings := 0, worst := none,
               reslot := none, holdKind := none } : Carried) x.carried }) ∧
      (∀ e : Carried, positionPermitted x.load p = true → x.entryAt p = some e →
        y.reasons =
          (if (s.profileOf l).codeThreshold ≤ e.confidence ∧ (s.profileOf l).codeThreshold ≤ conf ∧ e.code ≠ c then
            addBit x.reasons 7 else x.reasons) ∧
        y.entryAt p =
          some (if e.confidence < conf then { e with code := c, confidence := conf, codeValid := codeValid c } else e) ∧
        y = { x with reasons := y.reasons, carried := y.carried } ∧
        ∀ q : Position, q ≠ p → y.entryAt q = x.entryAt q) ∧
      (y.identified = false →
        exec (.applyCode l) s = .next ((s.modPort l fun p => { p with queue := p.queue.drop 1 }).setVisit v (some y))) ∧
      (y.identified = true →
        exec (.applyCode l) s =
          .next (settle (enterChecking l v ((s.modPort l fun p => { p with queue := p.queue.drop 1 }).setVisit v (some y)))))) ∧
  ∀ (s : State) (l : LaneId) (f : LaneFrame) (p : Position) (conf : Nat) (c : Text), HeadReady l f (.code p conf c) s →
    (∀ (v : VisitIx) (x : Visit), s.bound l = some (v, x) → x.state ≠ .identifying) → ∃ u : State,
    exec (.applyCode l) s = .next u ∧ (u.lane l).port.queue = (s.lane l).port.queue.drop 1 ∧
    u.faults.get (lanePort l) = (s.faults.get (lanePort l)).note .unexpected f.wire

/-- Entry into CHECKING: the admission lookup, the Hold List check, closure evaluation, the sweep, T0 with window kind CHECK and the completion
test, in this order. Closure evaluation starts each carried entry by its requirement, a hit taking a pin and a miss raising CLOSURE_MISS; a sweep
takes the next number with its SWEEP frame and match states, or leaves NOT_SWEPT; a visit with nothing outstanding is given its verdict. -/
def Obligations.EntersChecking : Prop :=
  (∀ (s : State) (l : LaneId) (v : VisitIx) (x : Visit), s.visit v = some x → ∃ (a h c w : State) (ya yh yc : Visit),
    a = admissionLookup l v (s.setVisit v (some { x with state := .checking })) ∧ a.visit v = some ya ∧
    h = holdListCheck v ya a ∧ h.visit v = some yh ∧
    c = yh.carried.foldl (fun t e => startClosure l v e t) h ∧ c.visit v = some yc ∧
    w = startSweep l v yc c ∧
    enterChecking l v s = completionTest l v (w.modLcu l fun u => { u with t0 := some ((w.profileOf l).checkWindow, .check) })) ∧
  (∀ (s : State) (l : LaneId) (v : VisitIx) (x : Visit) (e : Carried), s.visit v = some x →
    (e.closureReq = none →
      startClosure l v e s = s.setVisit v (some (x.modEntry e.position fun d => { d with closure := .notChecked }))) ∧
    (e.closureReq = some .noCheck →
      startClosure l v e s = s.setVisit v (some (x.modEntry e.position fun d => { d with closure := .notRequired })))) ∧
  (∀ (s : State) (l : LaneId) (v : VisitIx) (x : Visit) (e : Carried) (o : ClosureOutcome), s.visit v = some x →
    e.closureReq = some .intactOnly → judgeReads .intactOnly [] [] e.reads = o →
    startClosure l v e s = s.setVisit v (some { x.modEntry e.position (fun d => { d with closure := o }) with
      reasons := match o with | .mismatch => addBit x.reasons 12 | .broken => addBit x.reasons 13 | _ => x.reasons })) ∧
  (∀ (s : State) (l : LaneId) (v : VisitIx) (x : Visit) (e : Carried) (i : Nat) (k : ClosureEntry) (o : ClosureOutcome),
    s.visit v = some x → e.closureReq = some .listed → s.closureOf e.code = some (i, k) →
    judgeReads .listed k.seals [] e.reads = o →
    startClosure l v e s =
      ({ s with
          closures := Table.modify s.closures i fun y => { y with pins := y.pins + 1 }
          recency := i :: s.recency.filter fun j => j ≠ i } : State).setVisit v
        (some { x.modEntry e.position (fun d => { d with closureIx := some i, closure := o }) with
          reasons := match o with | .mismatch => addBit x.reasons 12 | .broken => addBit x.reasons 13 | _ => x.reasons })) ∧
  (∀ (s : State) (l : LaneId) (v : VisitIx) (x : Visit) (e : Carried), s.visit v = some x → e.closureReq = some .listed →
    (∀ p ∈ s.closures, p.2.code ≠ e.code) →
    startClosure l v e s = raiseEvent .closureMiss (lanePort l)
      (s.setVisit v (some (x.modEntry e.position fun d => { d with closure := .awaitingRecord })))) ∧
  (∀ (q : ClosureReq) (seals : List Text) (seen : List ClosureRead), judgeReads q seals seen [] = .pending) ∧
  (∀ (q : ClosureReq) (seals : List Text) (seen rest : List ClosureRead) (r : ClosureRead),
    judgeReads q seals seen (r :: rest) =
      if judgeRead q seals seen r = .pending then judgeReads q seals (seen ++ [r]) rest else judgeRead q seals seen r) ∧
  (∀ (s : State) (l : LaneId) (v : VisitIx) (x : Visit), s.visit v = some x →
    (x.carried = [] ∨ (s.profileOf l).panels = 0) →
    startSweep l v x s = s.setVisit v (some { x with carried := x.carried.map fun e => { e with damage := .notSwept } })) ∧
  (∀ (s : State) (l : LaneId) (v : VisitIx) (x : Visit), x.carried ≠ [] → (s.profileOf l).panels ≠ 0 →
    ∃ (pos : BitVec 8) (ms : List MatchState),
    (∀ p : Position, hasBit pos p.toCode = true ↔ ∃ e ∈ x.carried, e.position = p) ∧ pos.toNat < 8 ∧
    (∀ m : MatchState, m ∈ ms ↔ ∃ e ∈ x.carried, ∃ i : Fin 16, hasBit (s.profileOf l).rules i.val = true ∧
      m = ⟨e.position, i, (s.rules.get i).tolerance, false, false⟩) ∧
    startSweep l v x s = s.modLane l fun y =>
      { y with
        port := { y.port with hpSweep := some (.sweep y.sweep.next pos (s.profileOf l).panels) }
        sweep :=
          { phase := .running, next := y.sweep.next + 1, last := some y.sweep.next, lastEnd := none
            info := some
              { visit := x.number, positions := pos, panels := (s.profileOf l).panels, rules := (s.profileOf l).rules
                applied := 0, states := ms } } }) ∧
  (∀ (s : State) (l : LaneId) (v : VisitIx) (x : Visit), s.visit v = some x → x.state = .checking →
    (∀ e ∈ x.carried, e.closure ≠ .pending ∧ e.closure ≠ .awaitingRecord) → (s.lane l).sweep.phase = .idle →
    completionTest l v s = composeVerdict l v (s.modLcu l fun u => { u with t0 := none })) ∧
  ∀ (s : State) (l : LaneId) (v : VisitIx) (x : Visit), s.visit v = some x →
    (x.state ≠ .checking ∨ (∃ e ∈ x.carried, e.closure = .pending ∨ e.closure = .awaitingRecord) ∨
      (s.lane l).sweep.phase = .running) →
    completionTest l v s = s

/-- A CLOSURE with a carried entry at its position that holds fewer than 3 reads: kept in IDENTIFYING; kept in CHECKING and, while its
outcome is PENDING, evaluated under the entry's requirement (INTACT_ONLY by the tag alone, LISTED against the pinned entry's seals) with the
reason a MISMATCH or BROKEN adds, the rest of the visit kept, and the completion test made. Otherwise UNEXPECTED. -/
def Obligations.ClosureTaken : Prop :=
  (∀ (s : State) (l : LaneId) (f : LaneFrame) (p : Position) (src : Source) (tag : Option TagState) (conf : Nat) (n : Text)
    (v : VisitIx) (x : Visit) (e : Carried), HeadReady l f (.closure p src tag conf n) s → s.bound l = some (v, x) →
    x.entryAt p = some e → e.reads.length < 3 → x.state = .identifying →
    exec (.applyClosure l) s =
      .next ((s.modPort l fun q => { q with queue := q.queue.drop 1 }).setVisit v
        (some (x.modEntry p fun d => { d with reads := d.reads ++ [⟨n, src, tag, conf⟩] })))) ∧
  (∀ (s : State) (l : LaneId) (f : LaneFrame) (p : Position) (src : Source) (tag : Option TagState) (conf : Nat) (n : Text)
    (v : VisitIx) (x : Visit) (e : Carried) (o : ClosureOutcome), HeadReady l f (.closure p src tag conf n) s →
    s.bound l = some (v, x) → x.entryAt p = some e → e.reads.length < 3 → x.state = .checking → e.closure = .pending →
    judgeRead (e.closureReq.getD .noCheck) (s.sealsOf e) e.reads ⟨n, src, tag, conf⟩ = o →
    exec (.applyClosure l) s =
      .next (settle (completionTest l v ((s.modPort l fun q => { q with queue := q.queue.drop 1 }).setVisit v
        (some { x.modEntry p (fun d => { d with reads := d.reads ++ [⟨n, src, tag, conf⟩], closure := o }) with
          reasons := match o with | .mismatch => addBit x.reasons 12 | .broken => addBit x.reasons 13 | _ => x.reasons }))))) ∧
  (∀ (s : State) (l : LaneId) (f : LaneFrame) (p : Position) (src : Source) (tag : Option TagState) (conf : Nat) (n : Text)
    (v : VisitIx) (x : Visit) (e : Carried), HeadReady l f (.closure p src tag conf n) s → s.bound l = some (v, x) →
    x.entryAt p = some e → e.reads.length < 3 → x.state = .checking → e.closure ≠ .pending →
    exec (.applyClosure l) s =
      .next (settle (completionTest l v ((s.modPort l fun q => { q with queue := q.queue.drop 1 }).setVisit v
        (some (x.modEntry p fun d => { d with reads := d.reads ++ [⟨n, src, tag, conf⟩] })))))) ∧
  (∀ (s : State) (l : LaneId) (f : LaneFrame) (p : Position) (src : Source) (tag : Option TagState) (conf : Nat) (n : Text)
    (v : VisitIx) (x : Visit) (e : Carried), HeadReady l f (.closure p src tag conf n) s → s.bound l = some (v, x) →
    x.entryAt p = some e → e.reads.length < 3 → x.state = .checking →
    ∃ (u : State) (y : Visit), exec (.applyClosure l) s = .next (settle u) ∧ u.visit v = some y ∧
    (u.lane l).port.queue = (s.lane l).port.queue.drop 1 ∧
    y.entryAt p = some
      { e with
        reads := e.reads ++ [⟨n, src, tag, conf⟩]
        closure :=
          if e.closure = .pending then judgeRead (e.closureReq.getD .noCheck) (s.sealsOf e) e.reads ⟨n, src, tag, conf⟩
          else e.closure }) ∧
  (∀ (s : State) (l : LaneId) (f : LaneFrame) (p : Position) (src : Source) (tag : Option TagState) (conf : Nat) (n : Text),
    HeadReady l f (.closure p src tag conf n) s →
    (∀ (v : VisitIx) (x : Visit) (e : Carried), s.bound l = some (v, x) → x.entryAt p = some e →
      (3 ≤ e.reads.length ∨ (x.state ≠ .identifying ∧ x.state ≠ .checking))) → ∃ u : State,
    exec (.applyClosure l) s = .next u ∧ (u.lane l).port.queue = (s.lane l).port.queue.drop 1 ∧
    u.faults.get (lanePort l) = (s.faults.get (lanePort l)).note .unexpected f.wire) ∧
  (∀ (seals : List Text) (seen : List ClosureRead) (r : ClosureRead), judgeRead .noCheck seals seen r = .pending) ∧
  (∀ (seals : List Text) (seen : List ClosureRead) (r : ClosureRead),
    judgeRead .intactOnly seals seen r =
      (match r.tagState with | some .intact => .matched | some .broken => .broken | none => .pending)) ∧
  ∀ (seals : List Text) (seen : List ClosureRead) (r : ClosureRead),
    judgeRead .listed seals seen r =
      (if r.tagState = some .broken then .broken
      else if r.sealNo ∉ seals then .mismatch
      else if ∀ t ∈ seals, ∃ d ∈ seen ++ [r], d.sealNo = t then .matched
      else .pending)

/-- A FIND or SWEEP_END is judged by its sweep number against the lane's last sweep: a FIND of the running sweep and asked for is counted and
added to its entry; a SWEEP_END of the running sweep ends it: complete, the swept positions' PENDING outcomes become CLEAN; incomplete, INCOMPLETE
with SWEEP_INCOMPLETE. A frame of a stopped or older sweep is STALE, any other UNEXPECTED. -/
def Obligations.SweepFramesApplied : Prop :=
  (∀ (w : Sweep) (n : BitVec 16), w.last = none → w.classify n = .unexpected) ∧
  (∀ (w : Sweep) (n : BitVec 16), w.last = some n →
    w.classify n = if w.phase = .running then .applies else if w.lastEnd = some .stopped then .stale else .unexpected) ∧
  (∀ (w : Sweep) (n last : BitVec 16), w.last = some last → n ≠ last →
    w.classify n =
      if 1 ≤ (last.toNat + 65536 - n.toNat) % 65536 ∧ (last.toNat + 65536 - n.toNat) % 65536 ≤ 32767 then .stale else .unexpected) ∧
  (∀ (s : State) (l : LaneId) (f : LaneFrame) (n : BitVec 16) (p : Position) (a : Panel) (z : Nat) (d : Defect) (sv ex : Nat)
    (i : SweepInfo) (v : VisitIx) (x : Visit) (e : Carried), HeadReady l f (.find n p a z d sv ex) s →
    (s.lane l).sweep.classify n = .applies → (s.lane l).sweep.info = some i → hasBit i.positions p.toCode = true →
    hasBit i.panels a.toCode = true → s.bound l = some (v, x) → x.entryAt p = some e →
    ∃ (u : State) (j : SweepInfo) (y : Visit) (e' : Carried), exec (.applyFind l) s = .next (settle u) ∧
    (u.lane l).port.queue = (s.lane l).port.queue.drop 1 ∧ (u.lane l).sweep.phase = .running ∧ (u.lane l).sweep.info = some j ∧
    j.applied = (if i.applied < 1023 then i.applied + 1 else i.applied) ∧ u.visit v = some y ∧ y.entryAt p = some e' ∧
    e'.findings = (if e.findings < 1023 then e.findings + 1 else e.findings) ∧
    e'.worst = some (match e.worst with | some w => max w sv | none => sv) ∧ y.state = x.state) ∧
  (∀ (s : State) (l : LaneId) (f : LaneFrame) (n : BitVec 16) (p : Position) (a : Panel) (z : Nat) (d : Defect) (sv ex : Nat),
    HeadReady l f (.find n p a z d sv ex) s →
    ((s.lane l).sweep.classify n = .unexpected ∨
      ((s.lane l).sweep.classify n = .applies ∧ ∀ i : SweepInfo, (s.lane l).sweep.info = some i →
        (hasBit i.positions p.toCode = false ∨ hasBit i.panels a.toCode = false))) → ∃ u : State,
    exec (.applyFind l) s = .next u ∧ (u.lane l).port.queue = (s.lane l).port.queue.drop 1 ∧
    (u.lane l).sweep = (s.lane l).sweep ∧
    u.faults.get (lanePort l) = (s.faults.get (lanePort l)).note .unexpected f.wire) ∧
  (∀ (s : State) (l : LaneId) (f : LaneFrame) (n : BitVec 16) (p : Position) (a : Panel) (z : Nat) (d : Defect) (sv ex : Nat),
    HeadReady l f (.find n p a z d sv ex) s → (s.lane l).sweep.classify n = .stale → ∃ u : State,
    exec (.applyFind l) s = .next u ∧ (u.lane l).port.queue = (s.lane l).port.queue.drop 1 ∧
    (u.lane l).sweep = (s.lane l).sweep ∧
    u.faults.get (lanePort l) = (s.faults.get (lanePort l)).note .stale f.wire) ∧
  (∀ (s : State) (l : LaneId) (f : LaneFrame) (n : BitVec 16) (st : SweepStatus) (k : Nat) (i : SweepInfo) (v : VisitIx) (x : Visit),
    HeadReady l f (.sweepEnd n st k) s → (s.lane l).sweep.classify n = .applies → (s.lane l).sweep.info = some i →
    s.bound l = some (v, x) →
    ∃ (u : State) (y : Visit), exec (.applySweepEnd l) s = .next (settle u) ∧
    (u.lane l).port.queue = (s.lane l).port.queue.drop 1 ∧
    (u.lane l).sweep = { (s.lane l).sweep with phase := .idle, lastEnd := some .ended } ∧ u.visit v = some y ∧
    (y.carried = x.carried.map fun e =>
      if hasBit i.positions e.position.toCode = true ∧ e.damage = .pending then
        { e with damage := if st = .complete ∧ k = i.applied then .clean else .incomplete } else e) ∧
    (¬ (st = .complete ∧ k = i.applied) → hasBit y.reasons 18 = true) ∧
    ((st = .complete ∧ k = i.applied) → y.reasons = x.reasons)) ∧
  (∀ (s : State) (l : LaneId) (f : LaneFrame) (n : BitVec 16) (st : SweepStatus) (k : Nat), HeadReady l f (.sweepEnd n st k) s →
    (s.lane l).sweep.classify n = .unexpected → ∃ u : State,
    exec (.applySweepEnd l) s = .next u ∧ (u.lane l).port.queue = (s.lane l).port.queue.drop 1 ∧
    (u.lane l).sweep = (s.lane l).sweep ∧
    u.faults.get (lanePort l) = (s.faults.get (lanePort l)).note .unexpected f.wire) ∧
  ∀ (s : State) (l : LaneId) (f : LaneFrame) (n : BitVec 16) (st : SweepStatus) (k : Nat), HeadReady l f (.sweepEnd n st k) s →
    (s.lane l).sweep.classify n = .stale → ∃ u : State,
    exec (.applySweepEnd l) s = .next u ∧ (u.lane l).port.queue = (s.lane l).port.queue.drop 1 ∧
    (u.lane l).sweep = (s.lane l).sweep ∧
    u.faults.get (lanePort l) = (s.faults.get (lanePort l)).note .stale f.wire

/-- A FIND applied is judged by the rules of its sweep in ascending index: the combine mode decides whether it is a qualifying event and what it
arms, each qualifying event counts the tolerance down, the next fires the rule, and a rule that fires joins the fired rule set and takes its
action: MINOR or SURVEY with their reasons, and for HOLD the lane held with RULE. An enabled rule that has a match state for the finding's
position, not yet fired, judges the finding; a rule disabled or fired, or with none, judges nothing. -/
def Obligations.FindingsJudged : Prop :=
  (∀ (s : State) (l : LaneId) (f : LaneFrame) (n : BitVec 16) (p : Position) (a : Panel) (z : Nat) (d : Defect) (sv ex : Nat)
    (i : SweepInfo) (v : VisitIx) (x : Visit), HeadReady l f (.find n p a z d sv ex) s →
    (s.lane l).sweep.classify n = .applies → (s.lane l).sweep.info = some i → hasBit i.positions p.toCode = true →
    hasBit i.panels a.toCode = true → s.bound l = some (v, x) →
    exec (.applyFind l) s =
      .next (settle (judgeFinding l v ⟨p, a, d, sv, ex⟩ ((s.modLane l fun y =>
        { y with
          port := { y.port with queue := y.port.queue.drop 1 }
          sweep := { y.sweep with info := some { i with applied := if i.applied < 1023 then i.applied + 1 else i.applied } } }).setVisit v
        (some (x.modEntry p fun e =>
          { e with
            findings := if e.findings < 1023 then e.findings + 1 else e.findings
            worst := some (match e.worst with | some w => max w sv | none => sv) })))))) ∧
  (∀ (s : State) (l : LaneId) (v : VisitIx) (f : Finding),
    judgeFinding l v f s = (List.finRange 16).foldl (fun t i => judgeRule l v f t i) s) ∧
  (∀ (s : State) (l : LaneId) (v : VisitIx) (f : Finding) (i : Fin 16),
    (∀ (w : SweepInfo) (m : MatchState), (s.lane l).sweep.info = some w → m ∈ w.states → m.rule = i → m.position = f.position →
      ((s.rules.get i).enabled = false ∨ m.fired = true)) → judgeRule l v f s i = s) ∧
  (∀ (s : State) (l : LaneId) (f : Finding) (i : Fin 16) (m : MatchState), s.judgedState l i f = some m →
    m.rule = i ∧ m.position = f.position ∧ m.fired = false ∧ (s.rules.get i).enabled = true ∧
    ∃ w : SweepInfo, (s.lane l).sweep.info = some w ∧ m ∈ w.states) ∧
  (∀ (s : State) (l : LaneId) (f : Finding) (i : Fin 16) (w : SweepInfo) (m : MatchState), (s.lane l).sweep.info = some w →
    m ∈ w.states → m.rule = i → m.position = f.position → m.fired = false → (s.rules.get i).enabled = true →
    (∃ m' : MatchState, s.judgedState l i f = some m') ∧
    ((∀ k ∈ w.states, k.rule = i → k.position = f.position → k = m) → s.judgedState l i f = some m)) ∧
  (∀ (s t : State) (l : LaneId) (v : VisitIx) (f : Finding) (i : Fin 16) (m : MatchState), s.judgedState l i f = some m →
    t = (s.modLane l fun y =>
      { y with
        sweep := { y.sweep with
          info := y.sweep.info.map fun w => { w with
            states := w.states.map fun k =>
              if k.rule = i ∧ k.position = f.position then k.step (s.rules.get i) f else k } } }) →
    judgeRule l v f s i =
      if qualifies (s.rules.get i) m.armed f = true ∧ m.countdown = 0 then fireRule l v i f.position (s.rules.get i).action t else t) ∧
  (∀ (r : Rule) (f : Finding) (m : MatchState), m.fired = false →
    m.step r f =
      { m with
        armed := m.armed ||
          (match r.combine with
          | .either | .both => false
          | .bAfterA => matcherMatches r.a f
          | .aAfterB => (match r.b with | some b => matcherMatches b f | none => false))
        countdown := if qualifies r m.armed f = true then m.countdown - 1 else m.countdown
        fired := qualifies r m.armed f && m.countdown == 0 }) ∧
  (∀ (r : Rule) (armed : Bool) (f : Finding) (b : Bool),
    (match r.b with | some m => matcherMatches m f | none => false) = b →
    qualifies r armed f =
      (match r.combine with
      | .either => matcherMatches r.a f || b
      | .both => matcherMatches r.a f && b
      | .bAfterA => b && armed
      | .aAfterB => matcherMatches r.a f && armed)) ∧
  (∀ (s : State) (l : LaneId) (v : VisitIx) (i : Fin 16) (p : Position) (x : Visit), s.visit v = some x →
    fireRule l v i p .minor s =
      s.setVisit v (some { x.modEntry p (fun e =>
        { e with fired := addBit e.fired i.val, damage := if e.damage = .pending then .minor else e.damage }) with
        reasons := if ∃ e : Carried, x.entryAt p = some e ∧ e.damage = .pending then addBit x.reasons 16 else x.reasons })) ∧
  (∀ (s : State) (l : LaneId) (v : VisitIx) (i : Fin 16) (p : Position) (x : Visit), s.visit v = some x →
    fireRule l v i p .survey s =
      s.setVisit v (some { x.modEntry p (fun e => { e with fired := addBit e.fired i.val, damage := .survey }) with
        reasons := addBit x.reasons 17 })) ∧
  ∀ (s : State) (l : LaneId) (v : VisitIx) (i : Fin 16) (p : Position),
    fireRule l v i p .hold s = addCause l .rule (fireRule l v i p .survey s)

/-- A CLEAR for a visit in DIRECTED: LOWER, T2 captured and stopped, the lane released; ADMIT and REJECT settle the bookings and pins and
close the visit with its Gate Transaction Record, its visit record becoming FREE or going to the first parked lane, or the visit CLOSING with the
Record Queue full; REFER leaves it REFERRED; a draining lane takes its target. In any other state it is UNEXPECTED. -/
def Obligations.ClearApplied : Prop :=
  (∀ (s : State) (l : LaneId) (f : LaneFrame) (v : VisitIx) (x : Visit), HeadReady l f .clear s → s.bound l = some (v, x) →
    x.state = .directed → (x.verdict = some .admitted ∨ x.verdict = some .reject) →
    ((s.lane l).lcu.mode = .openIn ∨ (s.lane l).lcu.mode = .openOut) → ∃ u : State,
    exec (.applyClear l) s = .next (settle u) ∧
    (u.lane l).lcu = { (s.lane l).lcu with pendingDir := false, barrier := .down, t1 := none, t2 := none } ∧
    (u.lane l).port = { (s.lane l).port with queue := (s.lane l).port.queue.drop 1, hpBarrier := some .lower } ∧
    (u.lane l).dirRef = none ∧ (u.lane l).dirAcked = false ∧
    (u.bookings = x.listed.foldl (fun t i => Table.modify t i fun b =>
      if x.verdict = some .admitted then b.advance x.dir else b.restore) s.bookings) ∧
    (u.closures = (x.carried.filterMap fun e => e.closureIx).foldl
      (fun t i => Table.modify t i fun c => { c with pins := c.pins - 1 }) s.closures) ∧
    (s.records.length < 32 → u.recordTag = s.recordTag + 1 ∧
      u.records = s.records ++ [(s.recordTag,
        recordOf s x (if x.verdict = some .admitted then .admitted else .rejected) (s.lane l).lcu.t2)] ∧
      (s.parked = [] → u.visit v = none) ∧
      ∀ (m : LaneId) (rest : List LaneId) (load : LoadClass), ParkedFirst m rest load s → u.parked = rest ∧ GrantedTo m v load s u) ∧
    (32 ≤ s.records.length → u.records = s.records ∧ u.parked = s.parked ∧ u.closing = s.closing ++ [v] ∧ ∃ y : Visit,
      u.visit v = some y ∧ y.state = .closing ∧ y.lane = none ∧ y.number = x.number ∧ y.listed = [] ∧
      (∀ e ∈ y.carried, e.closureIx = none) ∧
      y.record = some (recordOf s x (if x.verdict = some .admitted then .admitted else .rejected) (s.lane l).lcu.t2))) ∧
  (∀ (s : State) (l : LaneId) (f : LaneFrame) (v : VisitIx) (x : Visit), HeadReady l f .clear s → s.bound l = some (v, x) →
    x.state = .directed → x.verdict = some .refer → ((s.lane l).lcu.mode = .openIn ∨ (s.lane l).lcu.mode = .openOut) →
    exec (.applyClear l) s =
      .next (settle ((s.modLane l fun y =>
        { y with
          port := { y.port with queue := y.port.queue.drop 1, hpBarrier := some .lower }
          lcu := { y.lcu with pendingDir := false, barrier := .down, t1 := none, t2 := none }
          dirRef := none, dirAcked := false }).setVisit v
        (some { x with state := .referred, lane := none, t2Clear := (s.lane l).lcu.t2 })))) ∧
  (∀ (s : State) (l : LaneId) (f : LaneFrame) (v : VisitIx) (x : Visit) (m : LaneMode), HeadReady l f .clear s →
    s.bound l = some (v, x) → x.state = .directed → (s.lane l).lcu.mode = .draining → (s.lane l).lcu.target = some m →
    ∃ u : State, exec (.applyClear l) s = .next (settle u) ∧ (u.lane l).lcu.mode = m ∧
    (u.lane l).lcu.target = none ∧ (u.lane l).lcu.barrier = .down ∧ (u.lane l).lcu.t2 = none ∧
    (m = .closed → (u.lane l).port.queue = []) ∧ (m ≠ .closed → (u.lane l).port.queue = (s.lane l).port.queue.drop 1)) ∧
  ∀ (s : State) (l : LaneId) (f : LaneFrame), HeadReady l f .clear s →
    (∀ (v : VisitIx) (x : Visit), s.bound l = some (v, x) → x.state ≠ .directed) → ∃ u : State,
    exec (.applyClear l) s = .next u ∧ (u.lane l).port.queue = (s.lane l).port.queue.drop 1 ∧
    u.faults.get (lanePort l) = (s.faults.get (lanePort l)).note .unexpected f.wire

/-! ## Management links -/

/-- A management frame cut short by idle line or by a length above 1024 is MALFORMED with the bytes received; a complete one is BAD_CHECK by
its CRC, UNKNOWN_CLASS by a kind other than REQUEST, MALFORMED with no request code; none of these is answered or queued. That idle time with
nothing being received changes nothing is the model's choice (log 1), and that MGMT_LENGTH_OVERRUN with a permitted length begins a frame (log 12). -/
def Obligations.MgmtFramesDiscarded : Prop :=
  (∀ (s : State) (k : Link), Quiet s → (s.link k).rx ≠ [] → ∃ t : State, exec (.mgmtIdleTimeout k) s = .next t ∧
    (t.link k).rx = [] ∧ (t.link k).queue = (s.link k).queue ∧ (t.link k).reply = (s.link k).reply ∧
    t.faults.get (linkPort k) = (s.faults.get (linkPort k)).note .malformed (s.link k).rx) ∧
  (∀ (s : State) (k : Link), Quiet s → (s.link k).rx = [] → exec (.mgmtIdleTimeout k) s = .next s) ∧
  (∀ (s : State) (k : Link) (kd tag h w : Byte), HearingLink k s → 1024 < h.toNat * 256 + w.toNat → ∃ t : State,
    exec (.mgmtLengthOverrun k kd tag h w) s = .next t ∧
    (t.link k).rx = [] ∧ (t.link k).queue = (s.link k).queue ∧ (t.link k).reply = (s.link k).reply ∧
    t.faults.get (linkPort k) = (s.faults.get (linkPort k)).note .malformed [0xC3, kd, tag, h, w]) ∧
  (∀ (s : State) (k : Link) (kd tag h w : Byte), HearingLink k s → h.toNat * 256 + w.toNat ≤ 1024 →
    exec (.mgmtLengthOverrun k kd tag h w) s = .next (s.modLink k fun m => { m with rx := [0xC3, kd, tag, h, w] })) ∧
  (∀ (s : State) (k : Link) (kd tag h w : Byte) (bs : List Byte), HearingLink k s → h.toNat * 256 + w.toNat ≤ 1024 →
    bs.length = h.toNat * 256 + w.toNat + 4 →
    MgmtFrame.wire ⟨kd, tag, bs.take (h.toNat * 256 + w.toNat)⟩ ≠ 0xC3 :: kd :: tag :: h :: w :: bs → ∃ t : State,
    exec (.mgmtFrameReceived k (0xC3 :: kd :: tag :: h :: w :: bs)) s = .next t ∧
    (t.link k).queue = (s.link k).queue ∧ (t.link k).reply = (s.link k).reply ∧
    t.faults.get (linkPort k) = (s.faults.get (linkPort k)).note .badCheck (0xC3 :: kd :: tag :: h :: w :: bs)) ∧
  (∀ (s : State) (k : Link) (f : MgmtFrame), HearingLink k s → f.body.length ≤ 1024 → f.kind ≠ 1 → ∃ t : State,
    exec (.mgmtFrameReceived k f.wire) s = .next t ∧
    (t.link k).queue = (s.link k).queue ∧ (t.link k).reply = (s.link k).reply ∧
    t.faults.get (linkPort k) = (s.faults.get (linkPort k)).note .unknownClass f.wire) ∧
  ∀ (s : State) (k : Link) (tag : Byte), HearingLink k s → ∃ t : State,
    exec (.mgmtFrameReceived k (MgmtFrame.wire ⟨1, tag, []⟩)) s = .next t ∧
    (t.link k).queue = (s.link k).queue ∧ (t.link k).reply = (s.link k).reply ∧
    t.faults.get (linkPort k) = (s.faults.get (linkPort k)).note .malformed (MgmtFrame.wire ⟨1, tag, []⟩)

/-- A REQUEST frame whose body codes the fields of a request command is that command; while a reply waits the request joins its queue,
and with the queue full it is lost with RX_OVERFLOW. That a request command is the arrival of its frame and changes nothing on a DOWN link is the
model's choice (log 3); request bodies are laid out by log 8. -/
def Obligations.RequestFrameIsItsCommand : Prop :=
  (∀ (s : State) (c : Instr) (k : Link) (tag : Byte) (r : Request), requestOf c = some (k, tag, r) → c.wf = true →
    r.encode.length < 1024 → HearingLink k s →
    exec (.mgmtFrameReceived k (MgmtFrame.wire ⟨1, tag, r.code :: r.encode⟩)) s = exec c s) ∧
  (∀ (s : State) (c : Instr) (k : Link) (tag : Byte) (r : Request), requestOf c = some (k, tag, r) → Quiet s →
    (s.link k).state = .up → (s.link k).reply ≠ none →
    (s.link k).queue.length < (match k with | .terminal => 8 | .authority => 4) →
    exec c s = .next (s.modLink k fun m => { m with queue := m.queue ++ [⟨tag, r.code, r.encode, some r⟩] })) ∧
  (∀ (s : State) (c : Instr) (k : Link) (tag : Byte) (r : Request), requestOf c = some (k, tag, r) → Quiet s →
    (s.link k).state = .up → (s.link k).reply ≠ none →
    (match k with | .terminal => 8 | .authority => 4) ≤ (s.link k).queue.length → ∃ t : State, exec c s = .next t ∧
    (t.link k).queue = (s.link k).queue ∧ (t.link k).reply = (s.link k).reply ∧
    t.faults.get (linkPort k) =
      (s.faults.get (linkPort k)).note .rxOverflow (MgmtFrame.wire ⟨1, tag, r.code :: r.encode⟩)) ∧
  ∀ (s : State) (c : Instr) (k : Link) (tag : Byte) (r : Request), requestOf c = some (k, tag, r) →
    (s.link k).state = .down → exec c s = .next s

/-- A management link goes DOWN: its requests, its reply and its frame in transmission are gone, an EVENT in transmission sets its flag
again, the authority's pending ATTENTION is cleared and AUTH_LINK raised. UP: the receiver hunts, the transmitter chooses afresh, AUTH_LINK
is raised and a presenting flag of the authority word sets attention-pending. That a link already in the state named stays as it is is the model's
choice (log 1). -/
def Obligations.LinkChanges : Prop :=
  (∀ s : State, Quiet s → s.term.state = .up → s.term.rx = [] →
    exec .terminalLinkDown s =
      .next { (match s.term.tx with | some (.event k p _) => raiseEvent k p s | _ => s) with
        term := { s.term with state := .down, queue := [], reply := none, tx := none } }) ∧
  (∀ s : State, Quiet s → s.term.state = .up → s.term.rx ≠ [] → ∃ t : State, exec .terminalLinkDown s = .next t ∧
    t.term = { state := .down, rx := [], queue := [], reply := none, tx := none } ∧ t.records = s.records ∧
    t.faults.get terminalPort = (s.faults.get terminalPort).note .malformed s.term.rx) ∧
  (∀ s : State, Quiet s → s.term.state = .down → exec .terminalLinkDown s = .next s) ∧
  (∀ s : State, Quiet s → s.term.state = .down → s.term.queue = [] →
    exec .terminalLinkUp s = .next (settle { s with term := { s.term with state := .up, rx := [] } })) ∧
  (∀ s : State, Quiet s → s.term.state = .up → exec .terminalLinkUp s = .next s) ∧
  (∀ s : State, Quiet s → s.auth.state = .up → s.auth.rx = [] →
    exec .authLinkDown s =
      .next (settle (raiseEvent .authLink 0
        { s with
          auth := { s.auth with state := .down, queue := [], reply := none, tx := none }
          attention := false }))) ∧
  (∀ s : State, Quiet s → s.auth.state = .up → s.auth.rx ≠ [] → ∃ t : State, exec .authLinkDown s = .next t ∧
    t.auth = { state := .down, rx := [], queue := [], reply := none, tx := none } ∧ t.attention = false ∧
    t.authWord = s.authWord ∧ t.authMask = s.authMask ∧ t.holdList = s.holdList ∧ t.slots = s.slots ∧
    t.faults.get authorityPort = (s.faults.get authorityPort).note .malformed s.auth.rx) ∧
  (∀ s : State, Quiet s → s.auth.state = .down → exec .authLinkDown s = .next s) ∧
  (∀ s : State, Quiet s → s.auth.state = .down → s.auth.queue = [] →
    exec .authLinkUp s =
      .next (settle (raiseEvent .authLink 0
        { s with
          auth := { s.auth with state := .up, rx := [] }
          attention := s.attention || s.authWord &&& ~~~s.authMask != 0 }))) ∧
  ∀ s : State, Quiet s → s.auth.state = .up → exec .authLinkUp s = .next s

/-- A free terminal transmitter on an UP link sends the waiting reply first (the model's reading where requests follow one another, log 19), then
events and records by the alternation turn, which changes as the transmission begins (log 21), events in kind order and ascending source; a free
authority transmitter its reply, then a pending ATTENTION. A raise sets the flag of an enabled kind. The frame of each: a reply with its tag,
request code, status and result; a Gate Transaction Record under its record tag, by the layout of 11.3 field for field (a record whose place a
RESTART emptied is the same frame, log 17); an EVENT with tag 0, its kind, its source (FFh for the part-wide kinds) and the snapshot of R169, whose
order and list count are log 10's; an ATTENTION with word, mask and count. -/
def Obligations.ManagementTransmitters : Prop :=
  (∀ s : State, (s.term.state = .down ∨ s.term.tx ≠ none) → kickTerm s = s) ∧
  (∀ (s : State) (r : Reply), s.term.state = .up → s.term.tx = none → s.term.reply = some r →
    kickTerm s = { s with term := { s.term with reply := none, tx := some (.reply r) } }) ∧
  (∀ (s : State) (k : EventKind) (p : PortId), s.term.state = .up → s.term.tx = none → s.term.reply = none →
    s.firstEvent = some (k, p) → (s.records = [] ∨ s.turnRecord = false) →
    kickTerm s =
      { s with
        term := { s.term with tx := some (.event k p (s.snapshot k p)) }
        events := s.events.set (eventIx k) (delBit (s.events.get (eventIx k)) p.val)
        turnRecord := true }) ∧
  (∀ (s : State) (tag : Byte) (r : GateRecord) (rest : List (Byte × GateRecord)), s.term.state = .up → s.term.tx = none →
    s.term.reply = none → s.records = (tag, r) :: rest → (s.firstEvent = none ∨ s.turnRecord = true) →
    kickTerm s = { s with term := { s.term with tx := some (.record tag r) }, turnRecord := false }) ∧
  (∀ s : State, s.term.reply = none → s.firstEvent = none → s.records = [] → kickTerm s = s) ∧
  (∀ (s : State) (k : EventKind) (p : PortId), s.firstEvent = some (k, p) → s.eventFlag k p = true ∧
    ∀ (k' : EventKind) (p' : PortId), s.eventFlag k' p' = true → k.toCode < k'.toCode ∨ (k = k' ∧ p ≤ p')) ∧
  (∀ s : State, s.firstEvent = none → ∀ (k : EventKind) (p : PortId), s.eventFlag k p = false) ∧
  (∀ (s : State) (k : EventKind) (p : PortId), hasBit s.enables k.toCode = true →
    (raiseEvent k p s).eventFlag k p = true ∧ (raiseEvent k p s) = { s with events := (raiseEvent k p s).events } ∧
    ∀ (k' : EventKind) (p' : PortId), (k', p') ≠ (k, p) → (raiseEvent k p s).eventFlag k' p' = s.eventFlag k' p') ∧
  (∀ (s : State) (k : EventKind) (p : PortId), hasBit s.enables k.toCode = false → raiseEvent k p s = s) ∧
  (∀ s : State, (s.auth.state = .down ∨ s.auth.tx ≠ none) → kickAuth s = s) ∧
  (∀ (s : State) (r : Reply), s.auth.state = .up → s.auth.tx = none → s.auth.reply = some r →
    kickAuth s = { s with auth := { s.auth with reply := none, tx := some (.reply r) } }) ∧
  (∀ s : State, s.auth.state = .up → s.auth.tx = none → s.auth.reply = none → s.attention = true →
    kickAuth s =
      { s with
        attention := false
        auth := { s.auth with
          tx := some (.attention s.authWord s.authMask (countBits (s.authWord &&& ~~~s.authMask))) } }) ∧
  (∀ s : State, s.auth.reply = none → s.attention = false → kickAuth s = s) ∧
  -- the frames
  (∀ r : Reply, (MgmtTx.reply r).frame = ⟨2, r.tag, [r.code] ++ num 1 r.status.toCode ++ r.result⟩) ∧
  (∀ (tag : Byte) (r : GateRecord), (MgmtTx.record tag r).frame = ⟨3, tag, r.encode⟩ ∧
    (MgmtTx.strayRecord tag r).frame = ⟨3, tag, r.encode⟩) ∧
  (∀ (k : EventKind) (p : PortId) (b : List Byte), (MgmtTx.event k p b).frame =
    ⟨4, 0, num 1 k.toCode ++ (match k with
      | .authLink | .notice | .holdChange => [0xFF]
      | .laneMode | .laneHeld | .parked | .closureMiss | .bayWait | .fault => num 1 p.val) ++ b⟩) ∧
  (∀ (w m : BitVec 16) (n : Nat), (MgmtTx.attention w m n).frame = ⟨5, 0, num 2 w.toNat ++ num 2 m.toNat ++ num 1 n⟩) ∧
  -- the Gate Transaction Record, by the table of 11.3
  (∀ r : GateRecord, r.encode =
    num 2 r.number ++ num 1 r.lane.val
      ++ num 1 (match r.dir with | .inGate => 0 | .outGate => 1)
      ++ num 1 (match r.outcome with
          | .admitted => 0 | .rejected => 1 | .referredAdmitted => 2 | .referredRejected => 3 | .cancelled => 4)
      ++ (match r.plate with | none => [0] | some t => [1] ++ num 1 t.length ++ t)
      ++ (match r.card with | none => [0] | some t => [1] ++ num 1 t.length ++ t)
      ++ num 1 r.carried.length
      ++ r.carried.flatMap (fun e =>
          num 1 (match e.position with | .single => 0 | .front => 1 | .rear => 2)
            ++ e.code
            ++ (match e.booking with | none => [0] | some b => [1] ++ num 4 b)
            ++ num 1 (match e.closure with
                | .pending => 0 | .awaitingRecord => 1 | .matched => 2 | .mismatch => 3 | .broken => 4 | .missing => 5
                | .unverified => 6 | .notRequired => 7 | .notChecked => 8)
            ++ num 1 (match e.damage with
                | .pending => 0 | .clean => 1 | .minor => 2 | .survey => 3 | .incomplete => 4 | .notSwept => 5)
            ++ num 2 e.fired.toNat ++ num 2 e.findings
            ++ (match e.worst with | none => [0] | some w => [1] ++ num 1 w)
            ++ (match e.reslot with | none => [0] | some w => [1] ++ num 1 w))
      ++ num 1 r.picks.length ++ r.picks.flatMap (fun b => num 4 b)
      ++ num 4 r.reasons.toNat
      ++ (match r.arrival with | none => [0] | some m => [1] ++ num 3 m)
      ++ (match r.t2Verdict with | none => [0] | some n => [1] ++ num 2 n)
      ++ (match r.t2Clear with | none => [0] | some n => [1] ++ num 2 n)
      ++ (match r.bay with | none => [0] | some b => [1] ++ num 1 b)
      ++ num 1 r.holdsSeen.toNat
      ++ num 1 (match r.undirected with | false => 0 | true => 1)) ∧
  -- the snapshots of R169; the source of a lane kind is the lane's port
  (∀ (s : State) (l : LaneId),
    s.snapshot .laneMode (lanePort l) =
      num 1 (s.lane l).lcu.mode.toCode ++ optBytes (fun (m : LaneMode) => num 1 m.toCode) (s.lane l).lcu.target ∧
    s.snapshot .laneHeld (lanePort l) =
      maskBytes (s.lane l).lcu.holds ++ flagByte (s.lane l).lcu.pendingDir ++ optBytes (num 2) (s.boundNumber l) ∧
    (l ∉ s.parked → s.snapshot .parked (lanePort l) = [0] ++ [0] ++ num 1 s.parked.length) ∧
    (l ∈ s.parked → s.snapshot .parked (lanePort l) = [1] ++ [1] ++ num 1 (s.parked.idxOf l) ++ num 1 s.parked.length) ∧
    (s.bound l = none → s.snapshot .closureMiss (lanePort l) = [0] ++ [0]) ∧
    (s.bound l = none →
      s.snapshot .bayWait (lanePort l) = [0] ++ [0] ++ num 1 s.bayWait.length ++ num 1 s.baysHeld ++ num 1 s.bayCount) ∧
    ∀ (v : VisitIx) (x : Visit), s.bound l = some (v, x) →
      s.snapshot .closureMiss (lanePort l) =
        [1] ++ num 2 x.number ++ num 1 (x.carried.filter fun e => e.closure = .awaitingRecord).length
          ++ (x.carried.filter fun e => e.closure = .awaitingRecord).flatMap (fun e => e.code) ∧
      s.snapshot .bayWait (lanePort l) =
        [1] ++ num 2 x.number ++ (if v ∈ s.bayWait then [1] ++ num 1 (s.bayWait.idxOf v) else [0]) ++ num 1 s.bayWait.length
          ++ num 1 s.baysHeld ++ num 1 s.bayCount) ∧
  (∀ (s : State) (p : PortId),
    s.snapshot .fault p =
      (if p.val < 16 then num 2 (s.faults.get p).status.toNat else num 1 (s.faults.get p).status.toNat)
        ++ optBytes (fun (k : FaultKind) => num 1 k.toCode) (s.faults.get p).pointer ∧
    s.snapshot .authLink p = num 1 s.auth.state.toCode ∧ s.snapshot .notice p = maskBytes s.termWord ++ maskBytes s.termMask ∧
    s.snapshot .holdChange p = num 2 s.holdList.length) ∧
  ∀ s : State, s.baysHeld =
    ((List.finRange 24).filter fun v => match s.visit v with | some x => x.bay.isSome | none => false).length

/-- A management transmitter completes its frame and chooses anew; a record completed leaves its queue and the oldest CLOSING visit takes
the place, its visit record becoming FREE or going to the first parked lane; a waiting reply then begins and the head of the link's request queue
is taken, on either link, as its command would be, its reply in the holding place with its tag and code. That the waiting reply is sent next
whatever frame completed, a reply too, is the model's reading (log 19); that a completion leaves the alternation turn as it is its choice (log 21);
and that the completion of a record whose place a RESTART emptied removes no record its reading (log 17). -/
def Obligations.ManagementTxComplete : Prop :=
  (∀ s : State, Quiet s → (∀ (tag : Byte) (r : GateRecord), s.term.tx ≠ some (.record tag r)) →
    (s.term.reply = none ∨ s.term.queue = []) →
    exec .terminalTxComplete s = .next (settle { s with term := { s.term with tx := none } })) ∧
  (∀ (s : State) (tag : Byte) (r : GateRecord), Quiet s → s.term.tx = some (.record tag r) → s.closing = [] →
    (s.term.reply = none ∨ s.term.queue = []) →
    exec .terminalTxComplete s =
      .next (settle { s with term := { s.term with tx := none }, records := s.records.drop 1 })) ∧
  (∀ (s : State) (tag : Byte) (r : GateRecord) (v : VisitIx) (rest : List VisitIx) (x : Visit) (g : GateRecord), Quiet s →
    s.term.tx = some (.record tag r) → s.closing = v :: rest → s.visit v = some x → x.record = some g → s.parked = [] →
    (s.term.reply = none ∨ s.term.queue = []) →
    exec .terminalTxComplete s =
      .next (settle ({ s with
        term := { s.term with tx := none }, closing := rest
        records := s.records.drop 1 ++ [(s.recordTag, g)], recordTag := s.recordTag + 1 }.setVisit v none))) ∧
  (∀ (s : State) (tag : Byte) (r : GateRecord) (v : VisitIx) (rest : List VisitIx) (x : Visit) (g : GateRecord) (m : LaneId)
    (lanes : List LaneId) (load : LoadClass), Quiet s → s.term.tx = some (.record tag r) → s.closing = v :: rest →
    s.visit v = some x → x.record = some g → ParkedFirst m lanes load s → (s.term.reply = none ∨ s.term.queue = []) →
    ∃ u : State, exec .terminalTxComplete s = .next (settle u) ∧ u.term = { s.term with tx := none } ∧ u.closing = rest ∧
    u.records = s.records.drop 1 ++ [(s.recordTag, g)] ∧ u.recordTag = s.recordTag + 1 ∧ u.parked = lanes ∧
    GrantedTo m v load s u) ∧
  (∀ (s : State) (r : Reply) (q : QueuedRequest), Quiet s → s.term.state = .up →
    (∀ (tag : Byte) (g : GateRecord), s.term.tx ≠ some (.record tag g)) → s.term.reply = some r → s.term.queue = [q] →
    ∃ t : State, exec .terminalTxComplete s = .next t ∧ t.term.tx = some (.reply r) ∧ t.term.queue = [] ∧
    ∃ r' : Reply, t.term.reply = some r' ∧ r'.tag = q.tag ∧ r'.code = q.code) ∧
  (∀ (s u : State) (r : Reply) (q : QueuedRequest) (rest : List QueuedRequest), Quiet s → s.term.state = .up →
    s.term.reply = some r → s.term.queue = q :: rest →
    exec .terminalTxComplete { s with term := { s.term with queue := [] } } = .next u →
    exec .terminalTxComplete s = .next (settle (takeRequest .terminal q { u with term := { u.term with queue := rest } }))) ∧
  (∀ (s u : State) (r : Reply) (q : QueuedRequest) (rest : List QueuedRequest), Quiet s → s.auth.state = .up →
    s.auth.reply = some r → s.auth.queue = q :: rest →
    exec .authTxComplete { s with auth := { s.auth with queue := [] } } = .next u →
    exec .authTxComplete s = .next (settle (takeRequest .authority q { u with auth := { u.auth with queue := rest } }))) ∧
  (∀ (s u : State) (r : Reply), Quiet s → s.term.state = .up → s.term.reply = some r →
    exec .terminalTxComplete { s with term := { s.term with queue := [] } } = .next u →
    u.term.tx = some (.reply r) ∧ u.term.reply = none) ∧
  (∀ (s u : State) (r : Reply), Quiet s → s.auth.state = .up → s.auth.reply = some r →
    exec .authTxComplete { s with auth := { s.auth with queue := [] } } = .next u →
    u.auth.tx = some (.reply r) ∧ u.auth.reply = none) ∧
  (∀ (s : State) (k : Link) (q : QueuedRequest), ∃ r : Reply, ((takeRequest k q s).link k).reply = some r ∧
    r.tag = q.tag ∧ r.code = q.code) ∧
  (∀ (s : State) (c : Instr) (k : Link) (tag : Byte) (r : Request), requestOf c = some (k, tag, r) → OpenLink k s →
    exec c s = .next (settle (takeRequest k ⟨tag, r.code, r.encode, some r⟩ s))) ∧
  ∀ s : State, Quiet s → (s.auth.reply = none ∨ s.auth.queue = []) →
    exec .authTxComplete s = .next (settle { s with auth := { s.auth with tx := none } })

/-! ## Lane requests -/

/-- OPEN_LANE: a CLOSED lane enters WARMING with the direction's target, its ready set emptied, WAKE produced, T3 started and LANE_MODE
raised, and with no required unit opens at once; BUSY or STATE in the other modes. SET_DIRECTION and CLOSE_LANE in every mode: no change,
turn or close at once, drain with a bound visit, or BUSY and STATE. BAD_VALUE for a lane above 15. -/
def Obligations.OpenTurnAndCloseLane : Prop :=
  (∀ (s : State) (tag : Byte) (l : LaneId) (d : Dir), OpenLink .terminal s → (s.lane l).lcu.mode = .closed →
    (s.profileOf l).required ≠ 0 →
    Sends .terminal (.openLane tag l.val d) s ⟨tag, 0x10, .ok, []⟩
      (raiseEvent .laneMode (lanePort l) (s.modLane l fun x =>
        { x with
          port := { x.port with hpWake := true }
          lcu := { x.lcu with
            mode := .warming, target := some (match d with | .inGate => .openIn | .outGate => .openOut), ready := 0
            t3 := some (s.profileOf l).warmup } }))) ∧
  (∀ (s : State) (tag : Byte) (l : LaneId) (d : Dir), OpenLink .terminal s → (s.lane l).lcu.mode = .closed →
    (s.profileOf l).required = 0 →
    Sends .terminal (.openLane tag l.val d) s ⟨tag, 0x10, .ok, []⟩
      (raiseEvent .laneMode (lanePort l) (s.modLane l fun x =>
        { x with
          port := { x.port with hpWake := true }
          lcu := { x.lcu with
            mode := (match d with | .inGate => .openIn | .outGate => .openOut), target := none, ready := 0, t3 := none
            audit := (s.profileOf l).audit } }))) ∧
  (∀ (s : State) (tag : Byte) (l : LaneId) (d : Dir), OpenLink .terminal s → (s.lane l).lcu.mode = .draining →
    Answers .terminal (.openLane tag l.val d) s ⟨tag, 0x10, .busy, []⟩ s) ∧
  (∀ (s : State) (tag : Byte) (l : LaneId) (d : Dir), OpenLink .terminal s →
    ((s.lane l).lcu.mode = .warming ∨ (s.lane l).lcu.mode = .openIn ∨ (s.lane l).lcu.mode = .openOut) →
    Answers .terminal (.openLane tag l.val d) s ⟨tag, 0x10, .state, []⟩ s) ∧
  (∀ (s : State) (tag : Byte) (n : Nat) (d : Dir), OpenLink .terminal s → 15 < n →
    Answers .terminal (.openLane tag n d) s ⟨tag, 0x10, .badValue, []⟩ s) ∧
  (∀ (s : State) (tag : Byte) (l : LaneId) (d : Dir), OpenLink .terminal s →
    (s.lane l).lcu.mode = (match d with | .inGate => .openIn | .outGate => .openOut) →
    Answers .terminal (.setDirection tag l.val d) s ⟨tag, 0x11, .ok, []⟩ s) ∧
  (∀ (s : State) (tag : Byte) (l : LaneId) (d : Dir) (p : VisitIx × Visit), OpenLink .terminal s →
    (s.lane l).lcu.mode = (match d with | .inGate => .openOut | .outGate => .openIn) → s.bound l = some p →
    Sends .terminal (.setDirection tag l.val d) s ⟨tag, 0x11, .ok, []⟩
      (raiseEvent .laneMode (lanePort l) (s.modLcu l fun u =>
        { u with mode := .draining, target := some (match d with | .inGate => .openIn | .outGate => .openOut) }))) ∧
  (∀ (s : State) (tag : Byte) (l : LaneId) (d : Dir), OpenLink .terminal s →
    (s.lane l).lcu.mode = (match d with | .inGate => .openOut | .outGate => .openIn) → s.bound l = none → l ∈ s.parked →
    Answers .terminal (.setDirection tag l.val d) s ⟨tag, 0x11, .busy, []⟩ s) ∧
  (∀ (s : State) (tag : Byte) (l : LaneId) (d : Dir), OpenLink .terminal s →
    (s.lane l).lcu.mode = (match d with | .inGate => .openOut | .outGate => .openIn) → s.bound l = none → l ∉ s.parked →
    Sends .terminal (.setDirection tag l.val d) s ⟨tag, 0x11, .ok, []⟩
      (raiseEvent .laneMode (lanePort l) (s.modLcu l fun u =>
        { u with mode := (match d with | .inGate => .openIn | .outGate => .openOut) }))) ∧
  (∀ (s : State) (tag : Byte) (l : LaneId) (d : Dir), OpenLink .terminal s →
    ((s.lane l).lcu.mode = .closed ∨ (s.lane l).lcu.mode = .warming) →
    Answers .terminal (.setDirection tag l.val d) s ⟨tag, 0x11, .state, []⟩ s) ∧
  (∀ (s : State) (tag : Byte) (l : LaneId) (d : Dir), OpenLink .terminal s → (s.lane l).lcu.mode = .draining →
    Answers .terminal (.setDirection tag l.val d) s ⟨tag, 0x11, .busy, []⟩ s ∧
    Answers .terminal (.closeLane tag l.val) s ⟨tag, 0x12, .busy, []⟩ s) ∧
  (∀ (s : State) (tag : Byte) (l : LaneId), OpenLink .terminal s → (s.lane l).lcu.mode = .closed →
    Answers .terminal (.closeLane tag l.val) s ⟨tag, 0x12, .ok, []⟩ s) ∧
  (∀ (s : State) (tag : Byte) (l : LaneId) (p : VisitIx × Visit), OpenLink .terminal s →
    ((s.lane l).lcu.mode = .openIn ∨ (s.lane l).lcu.mode = .openOut) → s.bound l = some p →
    Sends .terminal (.closeLane tag l.val) s ⟨tag, 0x12, .ok, []⟩
      (raiseEvent .laneMode (lanePort l) (s.modLcu l fun u => { u with mode := .draining, target := some .closed }))) ∧
  (∀ (s : State) (tag : Byte) (l : LaneId), OpenLink .terminal s →
    ((s.lane l).lcu.mode = .warming ∨
      (((s.lane l).lcu.mode = .openIn ∨ (s.lane l).lcu.mode = .openOut) ∧ s.bound l = none)) →
    Sends .terminal (.closeLane tag l.val) s ⟨tag, 0x12, .ok, []⟩
      (raiseEvent .laneMode (lanePort l)
        { (s.modLane l fun x =>
            { x with
              port := { x.port with
                queue := [], hpWake := false, hpShow := some ⟨.noArrow, [], none⟩
                collision := x.port.collision || x.port.hpShow.isSome, hpBarrier := some .lower }
              lcu := { x.lcu with
                mode := .closed, target := none, holds := 0, pendingDir := false, barrier := .down, t0 := none, t1 := none
                t3 := none }
              dirRef := none, dirAcked := false }) with
          parked := s.parked.filter fun m => m ≠ l })) ∧
  ∀ (s : State) (tag : Byte) (n : Nat) (d : Dir), OpenLink .terminal s → 15 < n →
    Answers .terminal (.setDirection tag n d) s ⟨tag, 0x11, .badValue, []⟩ s ∧
    Answers .terminal (.closeLane tag n) s ⟨tag, 0x12, .badValue, []⟩ s

/-- A hold cause is added only in OPEN_IN, OPEN_OUT or DRAINING and only where it is not yet in the set; a lane whose set was empty enters hold:
LANE_HELD, out of the Parked Arrival Queue, and the wait text, but for a visit whose direction the sign has acknowledged; a direction not
acknowledged is taken back, pending with T1 stopped and the barrier kept. The expiry of T1 and a fault of LANE severity add their causes so. -/
def Obligations.EnteringHold : Prop :=
  (∀ (s : State) (l : LaneId) (c : HoldCause),
    (modeHoldable (s.lane l).lcu.mode = false ∨ hasBit (s.lane l).lcu.holds c.toCode = true) → addCause l c s = s) ∧
  (∀ m : LaneMode, modeHoldable m = true ↔ m = .openIn ∨ m = .openOut ∨ m = .draining) ∧
  (∀ (s : State) (l : LaneId) (c : HoldCause), modeHoldable (s.lane l).lcu.mode = true →
    hasBit (s.lane l).lcu.holds c.toCode = false → (s.lane l).lcu.holds ≠ 0 → s.bound l = none →
    addCause l c s = s.modLcu l fun u => { u with holds := addBit u.holds c.toCode }) ∧
  (∀ (s : State) (l : LaneId) (c : HoldCause) (v : VisitIx) (x : Visit), modeHoldable (s.lane l).lcu.mode = true →
    hasBit (s.lane l).lcu.holds c.toCode = false → (s.lane l).lcu.holds ≠ 0 → s.bound l = some (v, x) →
    addCause l c s =
      (s.modLcu l fun u => { u with holds := addBit u.holds c.toCode }).setVisit v (some { x with holdsSeen := addBit x.holdsSeen c.toCode })) ∧
  (∀ (s : State) (l : LaneId) (c : HoldCause), modeHoldable (s.lane l).lcu.mode = true → (s.lane l).lcu.holds = 0 →
    s.bound l = none →
    addCause l c s =
      { raiseEvent .laneHeld (lanePort l) ((s.modLane l fun y =>
          { y with
            port := { y.port with
              hpShow := some ⟨.noArrow, renderItems none none (s.message 0), none⟩
              collision := y.port.collision || y.port.hpShow.isSome }
            lcu := { y.lcu with holds := addBit y.lcu.holds c.toCode }
            dirAcked := false })) with
        parked := s.parked.filter fun m => m ≠ l }) ∧
  (∀ (s : State) (l : LaneId) (c : HoldCause) (v : VisitIx) (x : Visit), modeHoldable (s.lane l).lcu.mode = true →
    (s.lane l).lcu.holds = 0 → s.bound l = some (v, x) → x.state ≠ .directed →
    addCause l c s =
      { raiseEvent .laneHeld (lanePort l) ((s.modLane l fun y =>
          { y with
            port := { y.port with
              hpShow := some ⟨.noArrow, renderItems none (some x.number) (s.message 0), none⟩
              collision := y.port.collision || y.port.hpShow.isSome }
            lcu := { y.lcu with holds := addBit y.lcu.holds c.toCode }
            dirAcked := false }).setVisit v
          (some { x with holdsSeen := addBit x.holdsSeen c.toCode })) with
        parked := s.parked.filter fun m => m ≠ l }) ∧
  (∀ (s : State) (l : LaneId) (c : HoldCause) (v : VisitIx) (x : Visit), modeHoldable (s.lane l).lcu.mode = true →
    (s.lane l).lcu.holds = 0 → s.bound l = some (v, x) → x.state = .directed → (s.lane l).dirAcked = true →
    (s.lane l).lcu.pendingDir = false →
    addCause l c s =
      { raiseEvent .laneHeld (lanePort l) ((s.modLane l fun y =>
          { y with
            lcu := { y.lcu with holds := addBit y.lcu.holds c.toCode } }).setVisit v
          (some { x with holdsSeen := addBit x.holdsSeen c.toCode })) with
        parked := s.parked.filter fun m => m ≠ l }) ∧
  (∀ (s : State) (l : LaneId) (c : HoldCause) (v : VisitIx) (x : Visit), modeHoldable (s.lane l).lcu.mode = true →
    (s.lane l).lcu.holds = 0 → s.bound l = some (v, x) → x.state = .directed →
    ((s.lane l).dirAcked = false ∨ (s.lane l).lcu.pendingDir = true) →
    addCause l c s =
      { raiseEvent .laneHeld (lanePort l) ((s.modLane l fun y =>
          { y with
            port := { y.port with
              hpShow := some ⟨.noArrow, renderItems none (some x.number) (s.message 0), none⟩
              collision := y.port.collision || y.port.hpShow.isSome }
            lcu := { y.lcu with holds := addBit y.lcu.holds c.toCode, pendingDir := true, t1 := none }
            dirAcked := false }).setVisit v
          (some { x with holdsSeen := addBit x.holdsSeen c.toCode })) with
        parked := s.parked.filter fun m => m ≠ l }) ∧
  (∀ (s : State) (l : LaneId) (k : FaultKind) (bs : List Byte), recordLane l k bs s =
    if hasBit (s.faults.get (lanePort l)).mask k.toCode = false ∧ hasBit (s.faults.get (lanePort l)).severity k.toCode = true then
      addCause l .fault (noteFault (lanePort l) k bs s)
    else noteFault (lanePort l) k bs s) ∧
  (∀ (s : State) (l : LaneId) (w : SignWait), Quiet s → (s.lane l).port.signWait = some w → (s.lane l).port.signTimer = some 0 →
    exec (.signTimeout l) s =
      .next (settle (recordLane l .signTimeout (LaneFrame.wire ⟨0x22, w.seq, w.shown.payload⟩)
        (s.modPort l fun p => { p with signWait := none, signTimer := none })))) ∧
  (∀ (s : State) (l : LaneId), Quiet s → (s.lane l).lcu.t1 = some 0 → (s.lane l).lcu.holds = 0 → s.bound l = none →
    exec (.barrierStall l) s =
      .next (settle (addCause l .stall (s.modLane l fun y =>
        { y with port := { y.port with hpBarrier := some .lower }, lcu := { y.lcu with barrier := .down, t1 := none } })))) ∧
  ∀ (s : State) (l : LaneId) (v : VisitIx) (x : Visit), Quiet s → (s.lane l).lcu.t1 = some 0 → (s.lane l).lcu.holds = 0 →
    s.bound l = some (v, x) →
    exec (.barrierStall l) s =
      .next (settle (addCause l .stall ((s.modLane l fun y =>
        { y with port := { y.port with hpBarrier := some .lower }, lcu := { y.lcu with barrier := .down, t1 := none } }).setVisit v
          (some { x with barrierDown := true }))))

/-- HOLD_LANE (received as its frame: the table has no row for it, log 3) holds an open or draining lane; STEP_LANE carries out the first
of its cases and leaves the lane held; RESUME_LANE empties the hold causes, shows a pending direction or raises a stalled barrier, and applies
the queue's heads in turn until one may not be. A free transmitter sends what the lifting and each application produced before the next head is
considered: a RAISE is sent though a CLEAR that follows lowers the barrier (when the transmitters choose within RESUME_LANE is the model's
reading, log 6). A lane that is not held answers STATE, a lane above 15 BAD_VALUE. -/
def Obligations.HoldStepAndResume : Prop :=
  (∀ (s : State) (tag : Byte) (l : LaneId), OpenLink .terminal s → s.term.rx = [] → modeHoldable (s.lane l).lcu.mode = true →
    (s.lane l).lcu.holds = 0 → ∃ u : State,
    Sends .terminal (.mgmtFrameReceived .terminal (MgmtFrame.wire ⟨1, tag, [0x13, BitVec.ofNat 8 l.val]⟩)) s ⟨tag, 0x13, .ok, []⟩ u ∧
    (u.lane l).lcu.holds = 1 ∧ l ∉ u.parked ∧ (s.enabled .laneHeld = true → u.eventFlag .laneHeld (lanePort l) = true) ∧
    ∀ (v : VisitIx) (x : Visit), s.bound l = some (v, x) → u.visit v = some { x with holdsSeen := addBit x.holdsSeen 0 }) ∧
  (∀ (s : State) (tag : Byte) (l : LaneId), OpenLink .terminal s → s.term.rx = [] → modeHoldable (s.lane l).lcu.mode = true →
    Sends .terminal (.mgmtFrameReceived .terminal (MgmtFrame.wire ⟨1, tag, [0x13, BitVec.ofNat 8 l.val]⟩)) s ⟨tag, 0x13, .ok, []⟩
      (addCause l .operator s)) ∧
  (∀ (s : State) (tag : Byte) (l : LaneId), OpenLink .terminal s → s.term.rx = [] → modeHoldable (s.lane l).lcu.mode = true →
    hasBit (s.lane l).lcu.holds 0 = true →
    Answers .terminal (.mgmtFrameReceived .terminal (MgmtFrame.wire ⟨1, tag, [0x13, BitVec.ofNat 8 l.val]⟩)) s
      ⟨tag, 0x13, .ok, []⟩ s) ∧
  (∀ (s : State) (tag n : Byte), OpenLink .terminal s → s.term.rx = [] → 15 < n.toNat →
    Answers .terminal (.mgmtFrameReceived .terminal (MgmtFrame.wire ⟨1, tag, [0x13, n]⟩)) s ⟨tag, 0x13, .badValue, []⟩ s) ∧
  (∀ (s : State) (tag : Byte) (l : LaneId), OpenLink .terminal s → s.term.rx = [] → modeHoldable (s.lane l).lcu.mode = false →
    Answers .terminal (.mgmtFrameReceived .terminal (MgmtFrame.wire ⟨1, tag, [0x13, BitVec.ofNat 8 l.val]⟩)) s
      ⟨tag, 0x13, .state, []⟩ s) ∧
  (∀ (s : State) (tag : Byte) (l : LaneId), OpenLink .terminal s → (s.lane l).lcu.holds = 0 →
    Answers .terminal (.stepLane tag l.val) s ⟨tag, 0x14, .state, []⟩ s ∧
    Answers .terminal (.resumeLane tag l.val) s ⟨tag, 0x15, .state, []⟩ s) ∧
  (∀ (s : State) (tag : Byte) (l : LaneId) (v : VisitIx) (x : Visit) (vd : Verdict), OpenLink .terminal s →
    (s.lane l).lcu.holds ≠ 0 → (s.lane l).lcu.pendingDir = true → s.bound l = some (v, x) → x.verdict = some vd →
    Sends .terminal (.stepLane tag l.val) s ⟨tag, 0x14, .ok, [0]⟩
      ((s.modLane l fun y =>
        { y with
          port := { y.port with
            hpShow := some (s.directionShow l x vd), collision := y.port.collision || y.port.hpShow.isSome
            hpBarrier := some .raise }
          lcu := { y.lcu with barrier := .up, t1 := some (s.profileOf l).barrierWindow, pendingDir := false }
          dirAcked := false }).setVisit v (some { x with undirected := x.undirected || s.isUndirected x vd }))) ∧
  (∀ (s : State) (tag : Byte) (l : LaneId) (v : VisitIx) (x : Visit), OpenLink .terminal s → (s.lane l).lcu.holds ≠ 0 →
    (s.lane l).lcu.pendingDir = false → s.bound l = some (v, x) → x.state = .directed → (s.lane l).lcu.barrier = .down →
    Sends .terminal (.stepLane tag l.val) s ⟨tag, 0x14, .ok, [1]⟩
      (s.modLane l fun y =>
        { y with
          port := { y.port with hpBarrier := some .raise }
          lcu := { y.lcu with barrier := .up, t1 := some (s.profileOf l).barrierWindow } })) ∧
  (∀ (s : State) (tag : Byte) (l : LaneId) (f : LaneFrame) (c : InFrame), OpenLink .terminal s → (s.lane l).lcu.holds ≠ 0 →
    (s.lane l).lcu.pendingDir = false → (∀ (v : VisitIx) (x : Visit), s.bound l = some (v, x) →
      ¬ (x.state = .directed ∧ (s.lane l).lcu.barrier = .down)) →
    ((s.lane l).lcu.mode = .openIn ∨ (s.lane l).lcu.mode = .openOut ∨
      ((s.lane l).lcu.mode = .draining ∧ s.bound l ≠ none)) →
    (s.lane l).port.queue.head? = some f → f.content = .visit c →
    (s.bound l = none → (∀ load : LoadClass, c ≠ .arrive load) ∨ ∃ v : VisitIx, s.visit v = none) →
    Sends .terminal (.stepLane tag l.val) s ⟨tag, 0x14, .ok, [2]⟩ (applyFrame l f c s)) ∧
  (∀ (s : State) (tag : Byte) (l : LaneId), OpenLink .terminal s → (s.lane l).lcu.holds ≠ 0 → (s.lane l).lcu.pendingDir = false →
    (∀ (v : VisitIx) (x : Visit), s.bound l = some (v, x) → ¬ (x.state = .directed ∧ (s.lane l).lcu.barrier = .down)) →
    (s.lane l).port.queue = [] →
    Answers .terminal (.stepLane tag l.val) s ⟨tag, 0x14, .ok, [3]⟩ s) ∧
  (∀ (s : State) (tag : Byte) (l : LaneId) (f : LaneFrame) (load : LoadClass), OpenLink .terminal s → (s.lane l).lcu.holds ≠ 0 →
    (s.lane l).lcu.pendingDir = false → s.bound l = none → (∀ v : VisitIx, s.visit v ≠ none) →
    (s.lane l).port.queue.head? = some f → f.content = .visit (.arrive load) →
    Answers .terminal (.stepLane tag l.val) s ⟨tag, 0x14, .ok, [3]⟩ s) ∧
  (∀ (s : State) (tag : Byte) (l : LaneId), OpenLink .terminal s → (s.lane l).lcu.holds ≠ 0 → (s.lane l).lcu.pendingDir = false →
    s.bound l = none → ((s.lane l).lcu.mode = .draining ∨ (s.lane l).lcu.mode = .closed ∨ (s.lane l).lcu.mode = .warming) →
    Answers .terminal (.stepLane tag l.val) s ⟨tag, 0x14, .ok, [3]⟩ s) ∧
  (∀ (s : State) (tag : Byte) (l : LaneId), OpenLink .terminal s → (s.lane l).lcu.holds ≠ 0 → (s.lane l).lcu.pendingDir = false →
    (∀ (v : VisitIx) (x : Visit), s.bound l = some (v, x) → ¬ (x.state = .directed ∧ (s.lane l).lcu.barrier = .down)) →
    (s.lane l).port.queue = [] →
    Answers .terminal (.resumeLane tag l.val) s ⟨tag, 0x15, .ok, []⟩ (s.modLcu l fun u => { u with holds := 0 })) ∧
  (∀ (s : State) (tag : Byte) (l : LaneId) (v : VisitIx) (x : Visit) (vd : Verdict), OpenLink .terminal s →
    (s.lane l).lcu.holds ≠ 0 → (s.lane l).lcu.pendingDir = true → s.bound l = some (v, x) → x.verdict = some vd →
    (s.lane l).port.queue = [] →
    Sends .terminal (.resumeLane tag l.val) s ⟨tag, 0x15, .ok, []⟩
      ((s.modLane l fun y =>
        { y with
          port := { y.port with
            hpShow := some (s.directionShow l x vd), collision := y.port.collision || y.port.hpShow.isSome
            hpBarrier := some .raise }
          lcu := { y.lcu with holds := 0, barrier := .up, t1 := some (s.profileOf l).barrierWindow, pendingDir := false }
          dirAcked := false }).setVisit v (some { x with undirected := x.undirected || s.isUndirected x vd }))) ∧
  (∀ (s : State) (tag : Byte) (l : LaneId) (v : VisitIx) (x : Visit), OpenLink .terminal s → (s.lane l).lcu.holds ≠ 0 →
    (s.lane l).lcu.pendingDir = false → s.bound l = some (v, x) → x.state = .directed → (s.lane l).lcu.barrier = .down →
    (s.lane l).port.queue = [] →
    Sends .terminal (.resumeLane tag l.val) s ⟨tag, 0x15, .ok, []⟩
      (s.modLane l fun y =>
        { y with
          port := { y.port with hpBarrier := some .raise }
          lcu := { y.lcu with holds := 0, barrier := .up, t1 := some (s.profileOf l).barrierWindow } })) ∧
  (∀ (s : State) (tag : Byte) (l : LaneId), OpenLink .terminal s → (s.lane l).lcu.holds ≠ 0 →
    Sends .terminal (.resumeLane tag l.val) s ⟨tag, 0x15, .ok, []⟩
      (applyHeads l ((liftHold l s).lane l).port.queue.length (transmitLanes (liftHold l s)))) ∧
  (∀ (s : State) (l : LaneId) (v : VisitIx) (x : Visit) (vd : Verdict), (s.lane l).lcu.pendingDir = true →
    s.bound l = some (v, x) → x.verdict = some vd →
    liftHold l s =
      (s.modLane l fun y =>
        { y with
          port := { y.port with
            hpShow := some (s.directionShow l x vd), collision := y.port.collision || y.port.hpShow.isSome
            hpBarrier := some .raise }
          lcu := { y.lcu with holds := 0, barrier := .up, t1 := some (s.profileOf l).barrierWindow, pendingDir := false }
          dirAcked := false }).setVisit v (some { x with undirected := x.undirected || s.isUndirected x vd })) ∧
  (∀ (s : State) (l : LaneId) (v : VisitIx) (x : Visit), (s.lane l).lcu.pendingDir = false → s.bound l = some (v, x) →
    x.state = .directed → (s.lane l).lcu.barrier = .down →
    liftHold l s = s.modLane l fun y =>
      { y with
        port := { y.port with hpBarrier := some .raise }
        lcu := { y.lcu with holds := 0, barrier := .up, t1 := some (s.profileOf l).barrierWindow } }) ∧
  (∀ (s : State) (l : LaneId), (s.lane l).lcu.pendingDir = false →
    (∀ (v : VisitIx) (x : Visit), s.bound l = some (v, x) → ¬ (x.state = .directed ∧ (s.lane l).lcu.barrier = .down)) →
    liftHold l s = s.modLcu l fun u => { u with holds := 0 }) ∧
  (∀ (s : State) (l : LaneId) (n : Nat) (f : LaneFrame) (c : InFrame),
    ((s.lane l).lcu.mode = .openIn ∨ (s.lane l).lcu.mode = .openOut ∨ ((s.lane l).lcu.mode = .draining ∧ s.bound l ≠ none)) →
    (s.lane l).lcu.holds = 0 → l ∉ s.parked → (s.lane l).port.queue.head? = some f → f.content = .visit c →
    applyHeads l (n + 1) s = applyHeads l n (transmitLanes (applyFrame l f c s))) ∧
  (∀ (s : State) (l : LaneId) (n : Nat),
    (n = 0 ∨ (s.lane l).port.queue = [] ∨ (s.lane l).lcu.holds ≠ 0 ∨ l ∈ s.parked ∨ (s.lane l).lcu.mode = .closed ∨
      (s.lane l).lcu.mode = .warming ∨ ((s.lane l).lcu.mode = .draining ∧ s.bound l = none)) → applyHeads l n s = s) ∧
  (∀ (s : State) (tag : Byte) (l : LaneId) (v : VisitIx) (x : Visit) (f : LaneFrame), OpenLink .terminal s →
    (s.lane l).lcu.holds ≠ 0 → s.bound l = some (v, x) → x.state = .directed →
    (((s.lane l).lcu.pendingDir = false ∧ (s.lane l).lcu.barrier = .down) ∨
      ((s.lane l).lcu.pendingDir = true ∧ x.verdict ≠ none)) →
    ((s.lane l).lcu.mode = .openIn ∨ (s.lane l).lcu.mode = .openOut ∨ (s.lane l).lcu.mode = .draining) → l ∉ s.parked →
    (s.lane l).port.line = .up → (s.lane l).port.tx = none → (s.lane l).port.queue = [f] → f.content = .visit .clear →
    ∃ u : State, exec (.resumeLane tag l.val) s = .next u ∧
    (u.lane l).port.tx = some (barrierFrame .raise (s.lane l).port.outSeq) ∧
    (u.lane l).port.lastBarrierSeq = some (s.lane l).port.outSeq ∧ (u.lane l).port.hpBarrier = some .lower) ∧
  ∀ (s : State) (tag : Byte) (n : Nat), OpenLink .terminal s → 15 < n →
    Answers .terminal (.stepLane tag n) s ⟨tag, 0x14, .badValue, []⟩ s ∧
    Answers .terminal (.resumeLane tag n) s ⟨tag, 0x15, .badValue, []⟩ s

/-- RESET_LANE returns its lane to CLOSED from any mode: a bound visit is cancelled with its record, its bookings restored and its pins
released, its visit record going to the first parked lane or, with the Record Queue full, left CLOSING with its record, HELD_RESOLVED raised with
AUTH_HOLD; a running sweep stopped with a STOP, the port's queue, holding places, sign wait and collision flag cleared, a blank SHOW and a LOWER
produced; the profile assignment, sequences, reported position and sweep numbers are kept; LANE_MODE is raised where the mode was not CLOSED. -/
def Obligations.ResetLane : Prop :=
  (∀ (s : State) (tag : Byte) (l : LaneId), OpenLink .terminal s → ∃ u : State,
    Sends .terminal (.resetLane tag l.val) s ⟨tag, 0x16, .ok, []⟩ u ∧
    (u.lane l).lcu =
      { mode := .closed, target := none, ready := 0, holds := 0, pendingDir := false, audit := 0, barrier := .down
        profile := (s.lane l).lcu.profile, t0 := none, t1 := none, t2 := none, t3 := none } ∧
    (u.lane l).port =
      { (s.lane l).port with
        lastIn := none, queue := [], hpBarrier := some .lower, hpShow := some ⟨.noArrow, [], none⟩
        hpSweep := if (s.lane l).sweep.phase = .running then some (.stop ((s.lane l).sweep.last.getD 0)) else none
        hpReread := none, hpWake := false, signWait := none, signTimer := none, collision := false } ∧
    (u.lane l).sweep =
      { (s.lane l).sweep with
        phase := .idle, info := none
        lastEnd := if (s.lane l).sweep.phase = .running then some .stopped else (s.lane l).sweep.lastEnd } ∧
    (u.lane l).dirRef = none ∧ l ∉ u.parked ∧ u.trail = s.trail ∧
    ((s.lane l).lcu.mode ≠ .closed → s.enabled .laneMode = true → u.eventFlag .laneMode (lanePort l) = true)) ∧
  (∀ (s : State) (tag : Byte) (l : LaneId) (v : VisitIx) (x : Visit), OpenLink .terminal s → s.bound l = some (v, x) →
    s.records.length < 32 → ∃ (u : State) (r : GateRecord),
    Sends .terminal (.resetLane tag l.val) s ⟨tag, 0x16, .ok, []⟩ u ∧ (s.parked = [] → u.visit v = none) ∧
    (∀ (m : LaneId) (rest : List LaneId) (load : LoadClass), ParkedFirst m rest load s → l ∉ s.parked →
      u.parked = rest ∧ GrantedTo m v load s u) ∧
    u.records = s.records ++ [(s.recordTag, r)] ∧ u.recordTag = s.recordTag + 1 ∧ r.number = x.number ∧ r.outcome = .cancelled ∧
    r.t2Clear = x.t2Clear ∧ (∀ e ∈ r.carried, e.closure ≠ .pending ∧ e.closure ≠ .awaitingRecord ∧ e.damage ≠ .pending) ∧
    ((∀ w ∈ s.bayWait, ∀ y : Visit, s.visit w = some y → y.lane = some l → w = v) → r = recordOf s
      { x with
        carried := x.carried.map fun e =>
          { e with
            closure := (match e.closure with | .pending | .awaitingRecord => .notChecked | o => o)
            damage := if e.damage = .pending then (if (s.lane l).sweep.phase = .running then .incomplete else .notSwept) else e.damage } }
      .cancelled x.t2Clear) ∧
    v ∉ u.bayWait ∧ u.bookings = x.listed.foldl (fun t i => Table.modify t i Booking.restore) s.bookings) ∧
  (∀ (s : State) (tag : Byte) (l : LaneId) (v : VisitIx) (x : Visit), OpenLink .terminal s → s.bound l = some (v, x) → ∃ u : State,
    Sends .terminal (.resetLane tag l.val) s ⟨tag, 0x16, .ok, []⟩ u ∧
    u.bookings = x.listed.foldl (fun t i => Table.modify t i Booking.restore) s.bookings ∧
    u.closures = (x.carried.filterMap fun e => e.closureIx).foldl
      (fun t i => Table.modify t i fun c => { c with pins := c.pins - 1 }) s.closures ∧
    v ∉ u.bayWait ∧ (hasBit x.reasons 19 = true → hasBit u.authWord 2 = true) ∧
    (hasBit x.reasons 19 = false → u.authWord = s.authWord) ∧
    (32 ≤ s.records.length → u.records = s.records ∧ u.recordTag = s.recordTag ∧ u.parked = s.parked.filter (fun m => m ≠ l) ∧
      u.closing = s.closing ++ [v] ∧ ∃ (y : Visit) (r : GateRecord), u.visit v = some y ∧ y.state = .closing ∧ y.lane = none ∧
      y.bay = none ∧ y.number = x.number ∧ y.picks = [] ∧ (∀ e ∈ y.carried, e.booking = none ∧ e.closureIx = none) ∧
      y.record = some r ∧ r.number = x.number ∧ r.outcome = .cancelled ∧ r.t2Clear = x.t2Clear ∧
      (∀ e ∈ r.carried, e.closure ≠ .pending ∧ e.closure ≠ .awaitingRecord ∧ e.damage ≠ .pending) ∧
      ((∀ w ∈ s.bayWait, ∀ y : Visit, s.visit w = some y → y.lane = some l → w = v) → r = recordOf s
        { x with
          carried := x.carried.map fun e =>
            { e with
              closure := (match e.closure with | .pending | .awaitingRecord => .notChecked | o => o)
              damage := if e.damage = .pending then (if (s.lane l).sweep.phase = .running then .incomplete else .notSwept) else e.damage } }
        .cancelled x.t2Clear))) ∧
  (∀ (s : State) (tag : Byte) (l : LaneId), OpenLink .terminal s → s.bound l = none → ∃ u : State,
    Sends .terminal (.resetLane tag l.val) s ⟨tag, 0x16, .ok, []⟩ u ∧ u.visits = s.visits ∧ u.records = s.records) ∧
  ∀ (s : State) (tag : Byte) (n : Nat), OpenLink .terminal s → 15 < n →
    Answers .terminal (.resetLane tag n) s ⟨tag, 0x16, .badValue, []⟩ s

/-- A command of a lane's line, queue or timers leaves what is loaded, the fault records of the other ports and the links' lines and requests
as they are, and, but for a CLEAR, the other lanes (the visit record that a CLEAR frees may go to a parked lane); the lane and visit requests
leave what is loaded and the fault records of the ports other than their lane's. -/
def Obligations.LaneCommandsFrame : Prop :=
  (∀ (s : State) (c : Instr) (l : LaneId), Quiet s → laneActedOn c = some l → ∃ t : State, exec c s = .next t ∧
    t.loaded = s.loaded ∧ (∀ p : PortId, p ≠ lanePort l → t.faults.get p = s.faults.get p) ∧
    (c ≠ .applyClear l → ∀ m : LaneId, m ≠ l → t.lane m = s.lane m) ∧
    ∀ k : Link, (t.link k).state = (s.link k).state ∧ (t.link k).rx = (s.link k).rx ∧ (t.link k).queue = (s.link k).queue ∧
      (t.link k).reply = (s.link k).reply) ∧
  (∀ (s : State) (tag : Byte) (n : Nat) (d : Dir) (vd : Verdict) (c : Instr), OpenLink .terminal s →
    c ∈ [.openLane tag n d, .setDirection tag n d, .closeLane tag n, .stepLane tag n, .resumeLane tag n, .resetLane tag n,
      .setVerdict tag n vd] → ∃ t : State, exec c s = .next t ∧ t.loaded = s.loaded ∧
    ∀ p : PortId, p.val ≠ n → t.faults.get p = s.faults.get p) ∧
  ∀ (s : State) (tag : Byte) (n : Nat) (o : Verdict) (c : Instr), OpenLink .terminal s →
    c ∈ [.resolve tag n o, .cancelVisit tag n] → ∃ t : State, exec c s = .next t ∧ t.loaded = s.loaded ∧ t.faults = s.faults

/-- WRITE_PROFILE writes all twelve fields together and makes the completion test on every warming lane assigned the profile, raising
LANE_MODE for each lane it opens; a profile above 7 or a field outside its range (any unit set, reread flag and rule set is in range, an empty panel
set too) is BAD_VALUE. -/
def Obligations.WriteProfile : Prop :=
  (∀ (s : State) (tag : Byte) (i : Fin 8) (p : Profile), OpenLink .terminal s → profileOk p = true → ∃ u : State,
    Sends .terminal (.writeProfile tag i.val p) s ⟨tag, 0x18, .ok, []⟩ u ∧
    u = { s with profiles := s.profiles.set i.val p, lanes := u.lanes, events := u.events } ∧
    (∀ (k : EventKind) (q : PortId), u.eventFlag k q = true ↔ s.eventFlag k q = true ∨
      (k = .laneMode ∧ s.enabled .laneMode = true ∧ ∃ l : LaneId, q = lanePort l ∧ (s.lane l).lcu.profile = i ∧
        (s.lane l).lcu.mode = .warming ∧ (s.lane l).lcu.target ≠ none ∧ subMask p.required (s.lane l).lcu.ready = true)) ∧
    ∀ l : LaneId, u.lane l =
      (match (s.lane l).lcu.target with
      | some m =>
        if (s.lane l).lcu.profile = i ∧ (s.lane l).lcu.mode = .warming ∧ subMask p.required (s.lane l).lcu.ready = true then
          { s.lane l with lcu := { (s.lane l).lcu with mode := m, target := none, t3 := none, audit := p.audit } }
        else s.lane l
      | none => s.lane l)) ∧
  (∀ (s : State) (tag : Byte) (i : Fin 8) (p : Profile), OpenLink .terminal s → profileOk p = true →
    (∀ l : LaneId, (s.lane l).lcu.mode ≠ .warming) →
    Answers .terminal (.writeProfile tag i.val p) s ⟨tag, 0x18, .ok, []⟩ { s with profiles := s.profiles.set i.val p }) ∧
  (∀ p : Profile, profileOk p = true ↔
    (1 ≤ p.warmup ∧ p.warmup ≤ 3000) ∧ (1 ≤ p.readWindow ∧ p.readWindow ≤ 600) ∧ (1 ≤ p.checkWindow ∧ p.checkWindow ≤ 1200) ∧
    (1 ≤ p.barrierWindow ∧ p.barrierWindow ≤ 1200) ∧ (1 ≤ p.signAck ∧ p.signAck ≤ 50) ∧ p.plateThreshold ≤ 100 ∧
    p.codeThreshold ≤ 100 ∧ p.audit ≤ 255 ∧ p.panels.toNat < 64) ∧
  ∀ (s : State) (tag : Byte) (n : Nat) (p : Profile), OpenLink .terminal s → (7 < n ∨ profileOk p = false) →
    Answers .terminal (.writeProfile tag n p) s ⟨tag, 0x18, .badValue, []⟩ s

/-- ASSIGN_PROFILE (R32). -/
def Obligations.AssignProfile : Prop :=
  (∀ (s : State) (tag : Byte) (l : LaneId) (i : Fin 8), OpenLink .terminal s → (s.lane l).lcu.mode = .closed →
    Answers .terminal (.assignProfile tag l.val i.val) s ⟨tag, 0x1A, .ok, []⟩ (s.modLcu l fun u => { u with profile := i }) ∧
    (s.modLcu l fun u => { u with profile := i }).profileOf l = s.profiles.get i) ∧
  (∀ (s : State) (tag : Byte) (l : LaneId) (i : Fin 8), OpenLink .terminal s → (s.lane l).lcu.mode ≠ .closed →
    Answers .terminal (.assignProfile tag l.val i.val) s ⟨tag, 0x1A, .state, []⟩ s) ∧
  (∀ (s : State) (tag : Byte) (n i : Nat), OpenLink .terminal s → (15 < n ∨ 7 < i) →
    Answers .terminal (.assignProfile tag n i) s ⟨tag, 0x1A, .badValue, []⟩ s) ∧
  (∀ s : State, ∃ t u : State, exec .powerOnReset s = .next t ∧ exec .resetLine s = .next u ∧
    ∀ l : LaneId, (t.lane l).lcu.profile = 0 ∧ (u.lane l).lcu.profile = 0) ∧
  (∀ (s : State) (tag : Byte), OpenLink .terminal s → ∃ t : State, exec (.restart tag) s = .next t ∧
    ∀ l : LaneId, (t.lane l).lcu.profile = (s.lane l).lcu.profile) ∧
  ∀ (s : State) (tag : Byte) (l : LaneId), OpenLink .terminal s → ∃ t : State, exec (.resetLane tag l.val) s = .next t ∧
    ∀ m : LaneId, (t.lane m).lcu.profile = (s.lane m).lcu.profile

/-! ## Reads of lanes and visits -/

/-- READ_LANE answers the port part and the lane part and clears the sign-collision flag after; READ_VISIT answers the visit, from the
authority only its restricted view and only while a carried code has a standing hold. The port part gives the fields of R21, the lane part those
of R42, a visit those of section 3.1 and the restricted view those of R160, each in the order the rule lists them; the bytes of a timer, the
occupancy of the holding places as one set and the plate without its confidence in the restricted view are log 9's, and a visit's pending-direction
flag is its lane's (log 14). A visit number above 65535, wider than its field, is BAD_VALUE by log 16. -/
def Obligations.LaneAndVisitReads : Prop :=
  (∀ (s : State) (tag : Byte) (l : LaneId), OpenLink .terminal s →
    Answers .terminal (.readLane tag l.val) s ⟨tag, 0x17, .ok, (s.lane l).port.encode ++ s.laneBytes l⟩
      (s.modPort l fun p => { p with collision := false })) ∧
  (∀ (s : State) (tag : Byte) (n : Nat), OpenLink .terminal s → 15 < n →
    Answers .terminal (.readLane tag n) s ⟨tag, 0x17, .badValue, []⟩ s) ∧
  (∀ (s : State) (tag : Byte) (n : Nat) (v : VisitIx) (x : Visit), OpenLink .terminal s → 1 ≤ n → n ≤ 65535 →
    s.visitNumbered n = some (v, x) →
    Answers .terminal (.readVisit tag (.number n)) s ⟨tag, 0x23, .ok, s.visitBytes x⟩ s) ∧
  (∀ (s : State) (tag : Byte) (n : Nat), OpenLink .terminal s → 1 ≤ n → n ≤ 65535 →
    (∀ (v : VisitIx) (x : Visit), s.visit v = some x → x.number ≠ n) →
    Answers .terminal (.readVisit tag (.number n)) s ⟨tag, 0x23, .notFound, []⟩ s) ∧
  (∀ (s : State) (tag : Byte) (n : Nat), OpenLink .terminal s → (n = 0 ∨ 65535 < n) →
    Answers .terminal (.readVisit tag (.number n)) s ⟨tag, 0x23, .badValue, []⟩ s) ∧
  (∀ (s : State) (tag : Byte) (v : VisitIx) (x : Visit), OpenLink .terminal s → s.visit v = some x →
    Answers .terminal (.readVisit tag (.index v.val)) s ⟨tag, 0x23, .ok, s.visitBytes x⟩ s) ∧
  (∀ (s : State) (tag : Byte) (v : VisitIx), OpenLink .terminal s → s.visit v = none →
    Answers .terminal (.readVisit tag (.index v.val)) s ⟨tag, 0x23, .ok, [0]⟩ s) ∧
  (∀ (s : State) (tag : Byte) (i : Nat), OpenLink .terminal s → 23 < i →
    Answers .terminal (.readVisit tag (.index i)) s ⟨tag, 0x23, .badValue, []⟩ s) ∧
  (∀ (s : State) (x : Visit), s.standingHold x = true ↔ ∃ e ∈ x.carried, ∃ h ∈ s.holdList, h.2.code = e.code) ∧
  (∀ (s : State) (tag : Byte) (v : VisitIx) (x : Visit), OpenLink .authority s → s.visit v = some x → s.standingHold x = true →
    Answers .authority (.authReadVisit tag (.index v.val)) s ⟨tag, 0x23, .ok, x.restrictedBytes⟩ s) ∧
  (∀ (s : State) (tag : Byte) (v : VisitIx), OpenLink .authority s →
    (∀ x : Visit, s.visit v = some x → s.standingHold x = false) →
    Answers .authority (.authReadVisit tag (.index v.val)) s ⟨tag, 0x23, .denied, []⟩ s) ∧
  (∀ (s : State) (tag : Byte) (n : Nat) (v : VisitIx) (x : Visit), OpenLink .authority s → 1 ≤ n → n ≤ 65535 →
    s.visitNumbered n = some (v, x) → s.standingHold x = true →
    Answers .authority (.authReadVisit tag (.number n)) s ⟨tag, 0x23, .ok, x.restrictedBytes⟩ s) ∧
  (∀ (s : State) (tag : Byte) (n : Nat), OpenLink .authority s → 1 ≤ n → n ≤ 65535 →
    (∀ (v : VisitIx) (x : Visit), s.visitNumbered n = some (v, x) → s.standingHold x = false) →
    Answers .authority (.authReadVisit tag (.number n)) s ⟨tag, 0x23, .denied, []⟩ s) ∧
  (∀ (s : State) (tag : Byte) (n : Nat), OpenLink .authority s → (n = 0 ∨ 65535 < n) →
    Answers .authority (.authReadVisit tag (.number n)) s ⟨tag, 0x23, .badValue, []⟩ s) ∧
  (∀ (s : State) (tag : Byte) (i : Nat), OpenLink .authority s → 23 < i →
    Answers .authority (.authReadVisit tag (.index i)) s ⟨tag, 0x23, .badValue, []⟩ s) ∧
  (∀ (x : Visit) (card : Option Text) (picks : List Nat) (reasons : BitVec 32) (a b : Option Nat),
    Visit.restrictedBytes
      { x with
        card := card, picks := picks, reasons := reasons, t2Verdict := a, t2Clear := b
        carried := x.carried.map fun e => { e with booking := none, closureIx := none } } = x.restrictedBytes) ∧
  -- the port part and the lane part of READ_LANE
  (∀ p : Port, p.encode =
    num 1 p.line.toCode ++ (match p.lastIn with | none => [0] | some q => [1, q]) ++ num 1 p.queue.length
      ++ num 1 ((if p.hpBarrier = none then 0 else 1) + (if p.hpShow = none then 0 else 2) + (if p.hpSweep = none then 0 else 4)
          + (if p.hpReread = none then 0 else 8) + (if p.hpWake = false then 0 else 16))
      ++ [p.outSeq] ++ (match p.signWait with | none => [0] | some w => [1, w.seq]) ++ flagByte p.collision
      ++ optBytes (fun (b : BarrierPos) => num 1 b.toCode) p.reported) ∧
  (∀ (s : State) (l : LaneId), s.laneBytes l =
    num 1 (s.lane l).lcu.mode.toCode ++ optBytes (fun (m : LaneMode) => num 1 m.toCode) (s.lane l).lcu.target
      ++ num 1 (s.lane l).lcu.profile.val ++ maskBytes (s.lane l).lcu.ready ++ maskBytes (s.lane l).lcu.holds
      ++ flagByte (s.lane l).lcu.pendingDir ++ num 1 (s.lane l).lcu.audit ++ num 1 (s.lane l).lcu.barrier.toCode
      ++ (match s.bound l with | none => [0] | some (_, x) => [1] ++ num 2 x.number) ++ flagByte (s.parked.contains l)
      ++ (match (s.lane l).lcu.t0 with
          | none => [0]
          | some (n, k) => (if (s.lane l).lcu.holds = 0 then [1] else [2]) ++ num 2 n ++ num 1 k.toCode)
      ++ (match (s.lane l).lcu.t1 with
          | none => [0]
          | some n => (if (s.lane l).lcu.holds = 0 then [1] else [2]) ++ num 2 n)
      ++ (match (s.lane l).lcu.t3 with | none => [0] | some n => [1] ++ num 2 n)
      ++ (match (s.lane l).lcu.t2 with | none => [0] | some n => [1] ++ num 2 n)) ∧
  -- the whole read of a visit
  (∀ (s : State) (x : Visit), s.visitBytes x =
    num 2 x.number ++ num 1 x.state.toCode ++ optBytes (fun (l : LaneId) => num 1 l.val) x.lane ++ num 1 x.grantLane.val
      ++ num 1 x.dir.toCode ++ num 1 x.load.toCode ++ optBytes (num 3) x.arrival
      ++ optBytes (fun (p : Text × Nat) => textBytes p.1 ++ num 1 p.2) x.plate ++ optBytes textBytes x.card
      ++ num 1 x.carried.length ++ x.carried.flatMap s.carriedBytes
      ++ num 1 (x.picks.filterMap s.refOf).length ++ (x.picks.filterMap s.refOf).flatMap (num 4)
      ++ maskBytes x.reasons ++ optBytes (fun (v : Verdict) => num 1 v.toCode) x.verdict ++ optBytes (num 1) x.bay
      ++ optBytes (num 1) x.lastBay
      ++ flagByte (s.visitPending x) ++ flagByte x.barrierDown
      ++ maskBytes x.holdsSeen ++ flagByte x.rereaded ++ flagByte x.undirected ++ optBytes (num 2) x.t2Verdict
      ++ optBytes (num 2) x.t2Clear ++ optBytes GateRecord.encode x.record) ∧
  (∀ (s : State) (e : Carried), s.carriedBytes e =
    num 1 e.position.toCode ++ e.code ++ num 1 e.confidence ++ flagByte e.codeValid ++ optBytes (num 4) (e.booking.bind s.refOf)
      ++ optBytes (fun (c : ClosureReq) => num 1 c.toCode) e.closureReq ++ optBytes (num 2) e.closureIx
      ++ num 1 e.reads.length
      ++ e.reads.flatMap (fun r =>
          textBytes r.sealNo ++ num 1 r.source.toCode ++ optBytes (fun (t : TagState) => num 1 t.toCode) r.tagState
            ++ num 1 r.confidence)
      ++ num 1 e.closure.toCode ++ num 1 e.damage.toCode ++ maskBytes e.fired ++ num 2 e.findings ++ optBytes (num 1) e.worst
      ++ optBytes (num 1) e.reslot ++ optBytes (fun (k : HoldKind) => num 1 k.toCode) e.holdKind) ∧
  (∀ (s : State) (x : Visit), (x.lane = none → s.visitPending x = false) ∧
    ∀ l : LaneId, x.lane = some l → s.visitPending x = (s.lane l).lcu.pendingDir) ∧
  (∀ (s : State) (i : Nat), s.refOf i = (Table.lookup s.bookings i).map fun b => b.ref) ∧
  -- the restricted read
  ∀ x : Visit, x.restrictedBytes =
    num 2 x.number ++ num 1 x.state.toCode ++ num 1 x.dir.toCode ++ num 1 x.load.toCode
      ++ optBytes (fun (l : LaneId) => num 1 l.val) x.lane ++ optBytes (num 3) x.arrival
      ++ optBytes (fun (p : Text × Nat) => textBytes p.1) x.plate
      ++ optBytes (fun (v : Verdict) => num 1 v.toCode) x.verdict ++ optBytes (num 1) x.bay
      ++ optBytes (fun (r : GateRecord) => num 1 r.outcome.toCode) x.record ++ num 1 x.carried.length
      ++ x.carried.flatMap (fun e =>
          num 1 e.position.toCode ++ e.code ++ optBytes (fun (k : HoldKind) => num 1 k.toCode) e.holdKind ++ num 1 e.closure.toCode
            ++ num 1 e.reads.length
            ++ e.reads.flatMap (fun r =>
                textBytes r.sealNo ++ num 1 r.source.toCode ++ optBytes (fun (t : TagState) => num 1 t.toCode) r.tagState)
            ++ num 1 e.damage.toCode ++ maskBytes e.fired ++ num 2 e.findings ++ optBytes (num 1) e.worst)

/-! ## Visit requests -/

/-- SET_VERDICT on a held lane with a bound visit past IDENTIFYING: OPERATOR and the verdict written, outstanding checks abandoned, a bay or a
place in the Bay Wait Queue kept by REFER and given up by the others, and for a REFER with neither the lowest FREE bay claimed or the queue joined
at its tail with BAY_WAIT raised; the barrier lowered, the direction pending or the visit waiting for a bay, an OVERRIDE entry; the lane stays
held and its audit countdown untouched. STATE, DENIED and BAD_VALUE where it is refused. -/
def Obligations.SetVerdict : Prop :=
  (∀ (s : State) (tag : Byte) (l : LaneId) (vd : Verdict) (v : VisitIx) (x : Visit), OpenLink .terminal s →
    (s.lane l).lcu.holds ≠ 0 → s.bound l = some (v, x) → x.state ≠ .identifying →
    (hasBit x.reasons 19 = false ∨ vd = .refer) → ∃ (u : State) (y : Visit),
    Sends .terminal (.setVerdict tag l.val vd) s ⟨tag, 0x20, .ok, []⟩ u ∧ u.visit v = some y ∧
    y.verdict = some vd ∧ y.reasons = addBit x.reasons 20 ∧ y.number = x.number ∧ y.lane = some l ∧
    y.t2Verdict = x.t2Verdict.or (s.lane l).lcu.t2 ∧
    (y.state = .directed ∨ y.state = .waitingBay) ∧ (y.state = .waitingBay ↔ v ∈ u.bayWait) ∧
    (vd ≠ .refer → y.state = .directed ∧ y.bay = none ∧ y.lastBay = x.lastBay) ∧
    (vd ≠ .refer → x.bay = none → u.bayWait = s.bayWait.filter fun w => w ≠ v) ∧
    (vd = .refer → (x.bay ≠ none ∨ v ∈ s.bayWait) →
      y.bay = x.bay ∧ y.lastBay = x.lastBay ∧ u.bayWait = s.bayWait ∧ u.events = s.events) ∧
    (∀ b : Nat, vd = .refer → x.bay = none → v ∉ s.bayWait → s.freeBay = some b →
      y.state = .directed ∧ y.bay = some b ∧ y.lastBay = some b ∧ u.bayWait = s.bayWait ∧ u.events = s.events) ∧
    (vd = .refer → x.bay = none → v ∉ s.bayWait → s.freeBay = none →
      y.state = .waitingBay ∧ y.bay = none ∧ y.lastBay = x.lastBay ∧ u.bayWait = s.bayWait ++ [v] ∧
      u.events = (raiseEvent .bayWait (lanePort l) s).events ∧
      (s.enabled .bayWait = true → u.eventFlag .bayWait (lanePort l) = true)) ∧
    (u.lane l).lcu.holds = (s.lane l).lcu.holds ∧ (u.lane l).lcu.audit = (s.lane l).lcu.audit ∧
    (u.lane l).lcu.barrier = .down ∧ ((s.lane l).lcu.barrier = .up → (u.lane l).port.hpBarrier = some .lower) ∧
    ((u.lane l).lcu.pendingDir = true ↔ y.state = .directed) ∧
    (u.lane l).port.hpShow = some ⟨.noArrow, renderItems none (some x.number) (s.message 0), none⟩ ∧
    (x.state = .checking → (u.lane l).lcu.t0 = none ∧ (u.lane l).sweep.phase = .idle ∧
      ∀ e ∈ y.carried, e.closure ≠ .pending ∧ e.closure ≠ .awaitingRecord ∧ e.damage ≠ .pending) ∧
    (x.state = .checking → (s.lane l).sweep.phase = .running → (u.lane l).sweep.lastEnd = some .stopped ∧
      (u.lane l).port.hpSweep = some (.stop ((s.lane l).sweep.last.getD 0))) ∧
    (s.frozen = false → u.serial = s.serial + 1 ∧ (u.lane l).dirRef = some s.serial ∧
      u.trail.getLast? =
        some { serial := s.serial, visit := x.number, lane := x.grantLane, verdict := vd, reasons := y.reasons
               cause := .override, minute := s.clock.map (fun c => c.minute), shown := false }) ∧
    (s.frozen = true → u.trail = s.trail ∧ u.serial = s.serial ∧ (u.lane l).dirRef = none)) ∧
  (∀ (s : State) (tag : Byte) (l : LaneId) (vd : Verdict), OpenLink .terminal s →
    ((s.lane l).lcu.holds = 0 ∨ s.bound l = none ∨ ∃ (v : VisitIx) (x : Visit), s.bound l = some (v, x) ∧ x.state = .identifying) →
    Answers .terminal (.setVerdict tag l.val vd) s ⟨tag, 0x20, .state, []⟩ s) ∧
  (∀ (s : State) (tag : Byte) (l : LaneId) (vd : Verdict) (v : VisitIx) (x : Visit), OpenLink .terminal s →
    (s.lane l).lcu.holds ≠ 0 → s.bound l = some (v, x) → x.state ≠ .identifying → hasBit x.reasons 19 = true → vd ≠ .refer →
    Answers .terminal (.setVerdict tag l.val vd) s ⟨tag, 0x20, .denied, []⟩ s) ∧
  ∀ (s : State) (tag : Byte) (n : Nat) (vd : Verdict), OpenLink .terminal s → 15 < n →
    Answers .terminal (.setVerdict tag n vd) s ⟨tag, 0x20, .badValue, []⟩ s

/-- RESOLVE and CANCEL_VISIT settle a REFERRED visit: its bookings advanced or restored, its pins released, its record placed and its visit record
FREE or granted to the first parked lane (for a visit on no lane and waiting for no bay, as VisitsLegal has each), or the visit left CLOSING,
HELD_RESOLVED with AUTH_HOLD, and for RESOLVE a trail entry. STATE, DENIED, NOT_FOUND and BAD_VALUE where refused (for a visit number above
65535, wider than its field, by log 16). -/
def Obligations.ResolveAndCancel : Prop :=
  (∀ (s : State) (tag : Byte) (n : Nat) (o : Verdict) (v : VisitIx) (x : Visit), OpenLink .terminal s → 1 ≤ n → n ≤ 65535 →
    s.visitNumbered n = some (v, x) → x.state = .referred → (o = .reject ∨ (o = .admitted ∧ s.standingHold x = false)) →
    ∃ u : State,
    Sends .terminal (.resolve tag n o) s ⟨tag, 0x21, .ok, []⟩ u ∧
    u.bookings = x.listed.foldl (fun t i => Table.modify t i fun b =>
      if o = .admitted then b.advance x.dir else b.restore) s.bookings ∧
    u.closures = (x.carried.filterMap fun e => e.closureIx).foldl
      (fun t i => Table.modify t i fun c => { c with pins := c.pins - 1 }) s.closures ∧
    (x.lane = none → v ∉ s.bayWait → s.records.length < 32 → u.recordTag = s.recordTag + 1 ∧
      u.records = s.records ++ [(s.recordTag,
        recordOf s x (if o = .admitted then .referredAdmitted else .referredRejected) x.t2Clear)] ∧
      (s.parked = [] → u.visit v = none) ∧
      ∀ (m : LaneId) (rest : List LaneId) (load : LoadClass), ParkedFirst m rest load s → u.parked = rest ∧ GrantedTo m v load s u) ∧
    (32 ≤ s.records.length → u.records = s.records ∧ u.closing = s.closing ++ [v] ∧ ∃ y : Visit,
      u.visit v = some y ∧ y.state = .closing ∧ y.lane = none ∧ y.record ≠ none) ∧
    (hasBit x.reasons 19 = true → hasBit u.authWord 2 = true) ∧ (hasBit x.reasons 19 = false → u.authWord = s.authWord) ∧
    (s.frozen = false → u.serial = s.serial + 1 ∧ u.trail.getLast? =
      some { serial := s.serial, visit := x.number, lane := x.grantLane, verdict := o, reasons := x.reasons
             cause := .resolve, minute := s.clock.map (fun c => c.minute), shown := false }) ∧
    (s.frozen = true → u.trail = s.trail ∧ u.serial = s.serial)) ∧
  (∀ (s : State) (tag : Byte) (n : Nat) (v : VisitIx) (x : Visit), OpenLink .terminal s → 1 ≤ n → n ≤ 65535 →
    s.visitNumbered n = some (v, x) → x.state = .referred → ∃ u : State,
    Sends .terminal (.cancelVisit tag n) s ⟨tag, 0x22, .ok, []⟩ u ∧ u.trail = s.trail ∧ u.serial = s.serial ∧
    u.bookings = x.listed.foldl (fun t i => Table.modify t i Booking.restore) s.bookings ∧
    u.closures = (x.carried.filterMap fun e => e.closureIx).foldl
      (fun t i => Table.modify t i fun c => { c with pins := c.pins - 1 }) s.closures ∧
    (x.lane = none → v ∉ s.bayWait → s.records.length < 32 → u.records = s.records ++ [(s.recordTag, recordOf s x .cancelled x.t2Clear)] ∧
      (s.parked = [] → u.visit v = none) ∧
      ∀ (m : LaneId) (rest : List LaneId) (load : LoadClass), ParkedFirst m rest load s → u.parked = rest ∧ GrantedTo m v load s u) ∧
    (32 ≤ s.records.length → u.records = s.records ∧ u.closing = s.closing ++ [v]) ∧
    (hasBit x.reasons 19 = true → hasBit u.authWord 2 = true)) ∧
  (∀ (s : State) (tag : Byte) (n : Nat) (o : Verdict) (v : VisitIx) (x : Visit), OpenLink .terminal s → 1 ≤ n → n ≤ 65535 →
    s.visitNumbered n = some (v, x) → x.state ≠ .referred →
    Answers .terminal (.cancelVisit tag n) s ⟨tag, 0x22, .state, []⟩ s ∧
    (o ≠ .refer → Answers .terminal (.resolve tag n o) s ⟨tag, 0x21, .state, []⟩ s)) ∧
  (∀ (s : State) (tag : Byte) (n : Nat) (v : VisitIx) (x : Visit), OpenLink .terminal s → 1 ≤ n → n ≤ 65535 →
    s.visitNumbered n = some (v, x) → x.state = .referred → s.standingHold x = true →
    Answers .terminal (.resolve tag n .admitted) s ⟨tag, 0x21, .denied, []⟩ s) ∧
  (∀ (s : State) (tag : Byte) (n : Nat) (o : Verdict), OpenLink .terminal s → 1 ≤ n → n ≤ 65535 →
    s.visitNumbered n = none →
    Answers .terminal (.cancelVisit tag n) s ⟨tag, 0x22, .notFound, []⟩ s ∧
    (o ≠ .refer → Answers .terminal (.resolve tag n o) s ⟨tag, 0x21, .notFound, []⟩ s)) ∧
  ∀ (s : State) (tag : Byte) (n : Nat) (o : Verdict), OpenLink .terminal s →
    ((n = 0 ∨ 65535 < n) → Answers .terminal (.cancelVisit tag n) s ⟨tag, 0x22, .badValue, []⟩ s) ∧
    ((n = 0 ∨ 65535 < n ∨ o = .refer) → Answers .terminal (.resolve tag n o) s ⟨tag, 0x21, .badValue, []⟩ s)

/-- SET_BAYS takes a count from 1 to 16 unless a bay at or above it is held, and grants freed bays to the waiting visits, oldest first and
lowest bay first; a bay released by RESOLVE, CANCEL_VISIT, SET_VERDICT away from REFER or RESET_LANE is granted at once to the oldest waiting
visit, which enters DIRECTED and leaves the Bay Wait Queue (R58, R59); WRITE_POLICY writes the class of any reason but AUTH_HOLD and OPERATOR. -/
def Obligations.BaysAndPolicy : Prop :=
  (∀ (s : State) (tag : Byte) (k : Nat), OpenLink .terminal s → 1 ≤ k → k ≤ 16 →
    (∀ (v : VisitIx) (x : Visit) (b : Nat), s.visit v = some x → x.bay = some b → b < k) → s.bayWait = [] →
    Answers .terminal (.setBays tag k) s ⟨tag, 0x24, .ok, []⟩ { s with bayCount := k }) ∧
  (∀ (s : State) (tag : Byte) (k : Nat), OpenLink .terminal s → 1 ≤ k → k ≤ 16 →
    (∀ (v : VisitIx) (x : Visit) (b : Nat), s.visit v = some x → x.bay = some b → b < k) →
    Sends .terminal (.setBays tag k) s ⟨tag, 0x24, .ok, []⟩ (grantFreeBays { s with bayCount := k })) ∧
  (∀ (s : State) (tag : Byte) (k : Nat) (v : VisitIx) (x : Visit) (b : Nat), OpenLink .terminal s → 1 ≤ k → k ≤ 16 →
    s.visit v = some x → x.bay = some b → k ≤ b →
    Answers .terminal (.setBays tag k) s ⟨tag, 0x24, .inUse, []⟩ s) ∧
  (∀ (s : State) (tag : Byte) (k : Nat), OpenLink .terminal s → (k = 0 ∨ 16 < k) →
    Answers .terminal (.setBays tag k) s ⟨tag, 0x24, .badValue, []⟩ s) ∧
  (∀ (s : State) (b : Nat), s.freeBay = some b →
    b < s.bayCount ∧ (∀ (v : VisitIx) (x : Visit), s.visit v = some x → x.bay ≠ some b) ∧
    ∀ c : Nat, c < b → ∃ (v : VisitIx) (x : Visit), s.visit v = some x ∧ x.bay = some c) ∧
  (∀ (s : State) (v : VisitIx) (rest : List VisitIx) (x : Visit) (l : LaneId) (b n : Nat), s.bayWait = v :: rest →
    s.freeBay = some b → s.visit v = some x → x.lane = some l →
    grantBays (n + 1) s =
      grantBays n (enterDirected l v ({ s with bayWait := rest }.setVisit v (some { x with bay := some b, lastBay := some b })))) ∧
  (∀ (s : State) (n : Nat), (s.bayWait = [] ∨ s.freeBay = none) → grantBays n s = s) ∧
  (∀ s : State, grantFreeBays s = grantBays s.bayWait.length s) ∧
  (∀ (s : State) (v : VisitIx), (∀ x : Visit, s.visit v = some x → x.bay = none) → releaseBay v s = s) ∧
  (∀ (s : State) (v : VisitIx) (x : Visit) (b : Nat), s.visit v = some x → x.bay = some b →
    releaseBay v s = grantFreeBays (s.setVisit v (some { x with bay := none }))) ∧
  (∀ (s : State) (v w : VisitIx) (x y : Visit) (m : LaneId) (b : Nat) (rest : List VisitIx), LastBay v w b rest s →
    s.visit v = some x → s.visit w = some y → y.lane = some m →
    releaseBay v s = enterDirected m w
      (({ s with bayWait := rest }.setVisit v (some { x with bay := none })).setVisit w (some { y with bay := some b, lastBay := some b }))) ∧
  (∀ (s : State) (tag : Byte) (n : Nat) (v w : VisitIx) (x : Visit) (b : Nat) (rest : List VisitIx), OpenLink .terminal s →
    LastBay v w b rest s → 1 ≤ n → n ≤ 65535 → s.visitNumbered n = some (v, x) → x.state = .referred →
    (∃ u : State, exec (.cancelVisit tag n) s = .next u ∧ BayGranted w b rest u) ∧
    (∃ u : State, exec (.resolve tag n .reject) s = .next u ∧ BayGranted w b rest u) ∧
    (s.standingHold x = false → ∃ u : State, exec (.resolve tag n .admitted) s = .next u ∧ BayGranted w b rest u)) ∧
  (∀ (s : State) (tag : Byte) (l : LaneId) (v w : VisitIx) (x : Visit) (b : Nat) (rest : List VisitIx), OpenLink .terminal s →
    LastBay v w b rest s → s.bound l = some (v, x) →
    (∃ u : State, exec (.resetLane tag l.val) s = .next u ∧ BayGranted w b rest u) ∧
    ∀ vd : Verdict, vd ≠ .refer → (s.lane l).lcu.holds ≠ 0 → x.state ≠ .identifying → hasBit x.reasons 19 = false →
      ∃ u : State, exec (.setVerdict tag l.val vd) s = .next u ∧ BayGranted w b rest u) ∧
  (∀ (s : State) (tag : Byte) (r : Reason) (c : PolicyClass), OpenLink .terminal s → r ≠ .authHold → r ≠ .operator →
    Answers .terminal (.writePolicy tag r c) s ⟨tag, 0x25, .ok, []⟩
      { s with policy := s.policy.setIfInBounds r.toCode c }) ∧
  ∀ (s : State) (tag : Byte) (c : PolicyClass), OpenLink .terminal s →
    Answers .terminal (.writePolicy tag .authHold c) s ⟨tag, 0x25, .badValue, []⟩ s ∧
    Answers .terminal (.writePolicy tag .operator c) s ⟨tag, 0x25, .badValue, []⟩ s

/-! ## Admission -/

/-- LOAD_BOOKING is refused at the first of its seven conditions that applies, else the entry takes the lowest-index empty place as OPEN and
counts in its window; CANCEL_BOOKING by the entry's state. That a reference wider than its 4 bytes is BAD_VALUE is the model's choice (log 16). -/
def Obligations.LoadAndCancelBooking : Prop :=
  (∀ f : BookingLoad, bookingOk f = true ↔
    f.ref ≤ 4294967295 ∧ codeValid f.code = true ∧ (∀ c : Text, f.card = some c → cardOk c = true) ∧
    (∀ p : Text, f.plate = some p → plateOk p = true) ∧ f.window ≤ 63 ∧ f.yard ≤ 254) ∧
  (∀ (s : State) (tag : Byte) (f : BookingLoad), OpenLink .terminal s →
    (bookingOk f = false ∨ s.window f.window = none ∨ (f.kind = .pick ∧ f.card = none)) →
    Answers .terminal (.loadBooking tag f) s ⟨tag, 0x30, .badValue, []⟩ s) ∧
  (∀ (s : State) (tag : Byte) (f : BookingLoad) (w : Window), OpenLink .terminal s → bookingOk f = true →
    s.window f.window = some w → ¬ (f.kind = .pick ∧ f.card = none) →
    (∃ p ∈ s.bookings, p.2.ref = f.ref ∨
      (p.2.code = f.code ∧ p.2.kind = f.kind ∧ (p.2.state = .opened ∨ p.2.state = .held ∨ p.2.state = .entered))) →
    Answers .terminal (.loadBooking tag f) s ⟨tag, 0x30, .duplicate, []⟩ s) ∧
  (∀ (s : State) (tag : Byte) (f : BookingLoad) (w : Window), OpenLink .terminal s → bookingOk f = true →
    s.window f.window = some w → ¬ (f.kind = .pick ∧ f.card = none) →
    (∀ p ∈ s.bookings, p.2.ref ≠ f.ref ∧
      ¬ (p.2.code = f.code ∧ p.2.kind = f.kind ∧ (p.2.state = .opened ∨ p.2.state = .held ∨ p.2.state = .entered))) →
    (4096 ≤ s.bookings.length ∨ w.capacity ≤ w.used) →
    Answers .terminal (.loadBooking tag f) s ⟨tag, 0x30, .full, []⟩ s) ∧
  (∀ (s : State) (tag : Byte) (f : BookingLoad) (w : Window), OpenLink .terminal s → bookingOk f = true →
    s.window f.window = some w → ¬ (f.kind = .pick ∧ f.card = none) →
    (∀ p ∈ s.bookings, p.2.ref ≠ f.ref ∧
      ¬ (p.2.code = f.code ∧ p.2.kind = f.kind ∧ (p.2.state = .opened ∨ p.2.state = .held ∨ p.2.state = .entered))) →
    s.bookings.length < 4096 → w.used < w.capacity →
    Answers .terminal (.loadBooking tag f) s ⟨tag, 0x30, .ok, num 2 (Table.firstFree s.bookings)⟩
      { s with
        bookings := Table.put s.bookings (Table.firstFree s.bookings)
          ({ ref := f.ref, kind := f.kind, code := f.code, card := f.card, plate := f.plate, window := f.window
             closure := f.closure, yard := f.yard, state := .opened, heldFrom := none, holder := none } : Booking)
        windows := s.windows.setIfInBounds f.window (some { w with used := w.used + 1 }) }) ∧
  (∀ t : Table Booking, t.Pairwise (fun p q => p.1 < q.1) →
    Table.lookup t (Table.firstFree t) = none ∧ ∀ j : Nat, j < Table.firstFree t → Table.lookup t j ≠ none) ∧
  (∀ (s : State) (tag : Byte) (r i : Nat) (b : Booking), OpenLink .terminal s → r ≤ 4294967295 →
    s.bookingOf r = some (i, b) → (b.state = .opened ∨ b.state = .entered) →
    Answers .terminal (.cancelBooking tag r) s ⟨tag, 0x31, .ok, []⟩
      { s with
        bookings := Table.modify s.bookings i fun y => { y with state := .cancelled }
        windows := s.windows.setIfInBounds b.window ((s.window b.window).map fun w => { w with used := w.used - 1 }) }) ∧
  (∀ (s : State) (tag : Byte) (r i : Nat) (b : Booking), OpenLink .terminal s → r ≤ 4294967295 → s.bookingOf r = some (i, b) →
    b.state = .held → Answers .terminal (.cancelBooking tag r) s ⟨tag, 0x31, .inUse, []⟩ s) ∧
  (∀ (s : State) (tag : Byte) (r i : Nat) (b : Booking), OpenLink .terminal s → r ≤ 4294967295 → s.bookingOf r = some (i, b) →
    (b.state = .closed ∨ b.state = .cancelled) → Answers .terminal (.cancelBooking tag r) s ⟨tag, 0x31, .state, []⟩ s) ∧
  (∀ (s : State) (tag : Byte) (r : Nat), OpenLink .terminal s → r ≤ 4294967295 → (∀ p ∈ s.bookings, p.2.ref ≠ r) →
    Answers .terminal (.cancelBooking tag r) s ⟨tag, 0x31, .notFound, []⟩ s) ∧
  ∀ (s : State) (tag : Byte) (r : Nat), OpenLink .terminal s → 4294967295 < r →
    Answers .terminal (.cancelBooking tag r) s ⟨tag, 0x31, .badValue, []⟩ s

/-- PURGE_BOOKING in each of its cases (R74): NOT_FOUND, a CLOSED entry removed and its place in the window returned, a CANCELLED entry removed,
IN_USE for a HELD and STATE for an OPEN or ENTERED one. That a reference above 4294967295, wider than its 4 bytes, is answered BAD_VALUE, as R3
answers a value out of its range, is the model's choice (log 16). -/
def Obligations.PurgeBooking : Prop :=
  (∀ (s : State) (tag : Byte) (r : Nat), OpenLink .terminal s → r ≤ 4294967295 → (∀ p ∈ s.bookings, p.2.ref ≠ r) →
    Answers .terminal (.purgeBooking tag r) s ⟨tag, 0x32, .notFound, []⟩ s) ∧
  (∀ (s : State) (tag : Byte) (r i : Nat) (b : Booking), OpenLink .terminal s → r ≤ 4294967295 →
    s.bookingOf r = some (i, b) → b.state = .closed →
    Answers .terminal (.purgeBooking tag r) s ⟨tag, 0x32, .ok, []⟩
      { s with
        bookings := Table.remove s.bookings i
        windows := s.windows.setIfInBounds b.window ((s.window b.window).map fun w => { w with used := w.used - 1 }) }) ∧
  (∀ (s : State) (tag : Byte) (r i : Nat) (b : Booking), OpenLink .terminal s → r ≤ 4294967295 → s.bookingOf r = some (i, b) →
    b.state = .cancelled →
    Answers .terminal (.purgeBooking tag r) s ⟨tag, 0x32, .ok, []⟩ { s with bookings := Table.remove s.bookings i }) ∧
  (∀ (s : State) (tag : Byte) (r i : Nat) (b : Booking), OpenLink .terminal s → r ≤ 4294967295 → s.bookingOf r = some (i, b) →
    b.state = .held → Answers .terminal (.purgeBooking tag r) s ⟨tag, 0x32, .inUse, []⟩ s) ∧
  (∀ (s : State) (tag : Byte) (r i : Nat) (b : Booking), OpenLink .terminal s → r ≤ 4294967295 → s.bookingOf r = some (i, b) →
    (b.state = .opened ∨ b.state = .entered) → Answers .terminal (.purgeBooking tag r) s ⟨tag, 0x32, .state, []⟩ s) ∧
  (∀ (s : State) (tag : Byte) (r : Nat), OpenLink .terminal s → 4294967295 < r →
    Answers .terminal (.purgeBooking tag r) s ⟨tag, 0x32, .badValue, []⟩ s) ∧
  (∀ (t : Table Booking) (i : Nat), t.Pairwise (fun p q => p.1 < q.1) →
    Table.lookup (Table.remove t i) i = none ∧ ∀ j : Nat, j ≠ i → Table.lookup (Table.remove t i) j = Table.lookup t j) ∧
  ∀ (s : State) (r i : Nat) (b : Booking), s.bookingOf r = some (i, b) → (i, b) ∈ s.bookings ∧ b.ref = r

/-- LOAD_WINDOW, REMOVE_WINDOW and SET_CLOCK in each of their cases. That a capacity above 255, wider than its field, is BAD_VALUE is the model's
choice (log 16). -/
def Obligations.WindowsAndClock : Prop :=
  (∀ (s : State) (tag : Byte) (i a n c : Nat), OpenLink .terminal s → i ≤ 63 → a ≤ 1048575 → 1 ≤ n → n ≤ 240 → c ≤ 255 →
    a + n - 1 ≤ 1048575 → (∀ w : Window, s.window i = some w → w.used = 0) →
    Answers .terminal (.loadWindow tag i a n c) s ⟨tag, 0x35, .ok, []⟩
      { s with windows := s.windows.setIfInBounds i (some ⟨a, n, c, 0⟩) }) ∧
  (∀ (s : State) (tag : Byte) (i a n c : Nat) (w : Window), OpenLink .terminal s → i ≤ 63 → a ≤ 1048575 → 1 ≤ n → n ≤ 240 →
    c ≤ 255 → a + n - 1 ≤ 1048575 → s.window i = some w → 0 < w.used → (a ≠ w.start ∨ n ≠ w.length ∨ c < w.used) →
    Answers .terminal (.loadWindow tag i a n c) s ⟨tag, 0x35, .inUse, []⟩ s) ∧
  (∀ (s : State) (tag : Byte) (i c : Nat) (w : Window), OpenLink .terminal s → i ≤ 63 → w.start ≤ 1048575 → 1 ≤ w.length →
    w.length ≤ 240 → c ≤ 255 → w.start + w.length - 1 ≤ 1048575 → s.window i = some w → 0 < w.used → w.used ≤ c →
    Answers .terminal (.loadWindow tag i w.start w.length c) s ⟨tag, 0x35, .ok, []⟩
      { s with windows := s.windows.setIfInBounds i (some { w with capacity := c }) }) ∧
  (∀ (s : State) (tag : Byte) (i a n c : Nat), OpenLink .terminal s →
    (63 < i ∨ 1048575 < a ∨ n = 0 ∨ 240 < n ∨ 255 < c ∨ 1048575 < a + n - 1) →
    Answers .terminal (.loadWindow tag i a n c) s ⟨tag, 0x35, .badValue, []⟩ s) ∧
  (∀ (s : State) (tag : Byte) (i : Nat) (w : Window), OpenLink .terminal s → i ≤ 63 → s.window i = some w → w.used = 0 →
    Answers .terminal (.removeWindow tag i) s ⟨tag, 0x36, .ok, []⟩ { s with windows := s.windows.setIfInBounds i none }) ∧
  (∀ (s : State) (tag : Byte) (i : Nat) (w : Window), OpenLink .terminal s → i ≤ 63 → s.window i = some w → 0 < w.used →
    Answers .terminal (.removeWindow tag i) s ⟨tag, 0x36, .inUse, []⟩ s) ∧
  (∀ (s : State) (tag : Byte) (i : Nat), OpenLink .terminal s → i ≤ 63 → s.window i = none →
    Answers .terminal (.removeWindow tag i) s ⟨tag, 0x36, .notFound, []⟩ s) ∧
  (∀ (s : State) (tag : Byte) (i : Nat), OpenLink .terminal s → 63 < i →
    Answers .terminal (.removeWindow tag i) s ⟨tag, 0x36, .badValue, []⟩ s) ∧
  (∀ (s : State) (i : Nat) (w : Option Window), i ≤ 63 →
    ({ s with windows := s.windows.setIfInBounds i w } : State).window i = w ∧
    ∀ j : Nat, j ≠ i → ({ s with windows := s.windows.setIfInBounds i w } : State).window j = s.window j) ∧
  (∀ (s : State) (tag : Byte) (m c : Nat), OpenLink .terminal s → m ≤ 1048575 → c ≤ 59 →
    Answers .terminal (.setClock tag m c) s ⟨tag, 0x38, .ok, []⟩ { s with clock := some ⟨m, c, 0⟩ }) ∧
  ∀ (s : State) (tag : Byte) (m c : Nat), OpenLink .terminal s → (1048575 < m ∨ 59 < c) →
    Answers .terminal (.setClock tag m c) s ⟨tag, 0x38, .badValue, []⟩ s

/-- SET_SLACK, the slack after a reset (R82), and the window check it widens (R87): EARLY, nothing added, or considered for a reslot. -/
def Obligations.Slack : Prop :=
  (∀ (s : State) (tag : Byte) (e l : Nat), OpenLink .terminal s → e ≤ 120 → l ≤ 120 →
    Answers .terminal (.setSlack tag e l) s ⟨tag, 0x3A, .ok, []⟩ { s with earlySlack := e, lateSlack := l }) ∧
  (∀ (s : State) (tag : Byte) (e l : Nat), OpenLink .terminal s → (120 < e ∨ 120 < l) →
    Answers .terminal (.setSlack tag e l) s ⟨tag, 0x3A, .badValue, []⟩ s) ∧
  (∀ s : State, ∃ t u : State, exec .powerOnReset s = .next t ∧ exec .resetLine s = .next u ∧
    t.earlySlack = 30 ∧ t.lateSlack = 15 ∧ u.earlySlack = 30 ∧ u.lateSlack = 15) ∧
  (∀ (s : State) (tag : Byte), OpenLink .terminal s → ∃ t : State, exec (.restart tag) s = .next t ∧
    t.earlySlack = s.earlySlack ∧ t.lateSlack = s.lateSlack) ∧
  (∀ (s : State) (tag : Byte) (l : LaneId), OpenLink .terminal s → ∃ t : State, exec (.resetLane tag l.val) s = .next t ∧
    t.earlySlack = s.earlySlack ∧ t.lateSlack = s.lateSlack) ∧
  (∀ (s : State) (v : VisitIx) (a i : Nat) (p : Option Position) (b : Booking) (w : Window), Table.lookup s.bookings i = some b →
    s.window b.window = some w → a + s.earlySlack < w.start → judgeWindow v a i p s = s.addReason v .early) ∧
  (∀ (s : State) (v : VisitIx) (a i : Nat) (p : Option Position) (b : Booking) (w : Window), Table.lookup s.bookings i = some b →
    s.window b.window = some w → w.start ≤ a + s.earlySlack → a ≤ w.start + w.length - 1 + s.lateSlack →
    judgeWindow v a i p s = s) ∧
  ∀ (s : State) (v : VisitIx) (a i : Nat) (p : Option Position) (b : Booking) (w : Window), Table.lookup s.bookings i = some b →
    s.window b.window = some w → w.start ≤ a + s.earlySlack → w.start + w.length - 1 + s.lateSlack < a →
    judgeWindow v a i p s = reslot v i b p s

/-- The admission lookup's steps in their order: the code gate, the match by code with the booking held or BOOKING_STATE or NO_BOOKING,
a live entry found exactly when one stands in the table, the match by card in ascending reference with NO_BOOKING for a BARE visit that finds none,
the plate and card checks, the window check with its absent minute, and the reslot of a late booking to the current window with room, kept in its
carried entry; there is a current window exactly while the clock is SET and a loaded window contains its minute. -/
def Obligations.AdmissionLookup : Prop :=
  (∀ (s : State) (v : VisitIx) (x : Visit) (th : Nat) (e : Carried), s.visit v = some x →
    gateReasons v th e s = s.setVisit v (some { x with
      reasons := (if th ≤ e.confidence then id else fun m => addBit m 5) (if e.codeValid then x.reasons else addBit x.reasons 4) })) ∧
  (∀ (t : Nat) (e : Carried), e.passesGate t = true ↔ e.codeValid = true ∧ t ≤ e.confidence) ∧
  (∀ (s : State) (v : VisitIx) (x : Visit) (e : Carried) (i : Nat) (b : Booking),
    s.liveBooking e.code (match x.dir with | .inGate => .drop | .outGate => .pick) = some (i, b) →
    b.state = (match x.dir with | .inGate => .opened | .outGate => .entered) →
    matchEntry v x e s =
      ({ s with
          bookings := Table.modify s.bookings i fun c =>
            { c with state := .held, heldFrom := some c.state, holder := some x.number } } : State).modEntry v e.position
        fun c => { c with booking := some i, closureReq := some b.closure }) ∧
  (∀ (s : State) (v : VisitIx) (x : Visit) (e : Carried) (i : Nat) (b : Booking),
    s.liveBooking e.code (match x.dir with | .inGate => .drop | .outGate => .pick) = some (i, b) →
    b.state ≠ (match x.dir with | .inGate => .opened | .outGate => .entered) →
    matchEntry v x e s = s.addReason v .bookingState) ∧
  (∀ (s : State) (v : VisitIx) (x : Visit) (e : Carried),
    s.liveBooking e.code (match x.dir with | .inGate => .drop | .outGate => .pick) = none →
    (∃ p ∈ s.bookings, p.2.code = e.code ∧ p.2.kind = (match x.dir with | .inGate => .drop | .outGate => .pick)) →
    matchEntry v x e s = s.addReason v .bookingState) ∧
  (∀ (s : State) (v : VisitIx) (x : Visit) (e : Carried),
    (∀ p ∈ s.bookings, ¬ (p.2.code = e.code ∧ p.2.kind = (match x.dir with | .inGate => .drop | .outGate => .pick))) →
    matchEntry v x e s = s.addReason v .noBooking) ∧
  (∀ (s : State) (v : VisitIx) (x : Visit) (th : Nat) (p : Text) (c : Nat), x.plate = some (p, c) → x.listed ≠ [] → c < th →
    checkPlate v th x s = s.addReason v .lowConfidence) ∧
  (∀ (s : State) (v : VisitIx) (x : Visit) (th : Nat) (p : Text) (c : Nat), x.plate = some (p, c) → th ≤ c →
    (∃ i ∈ x.listed, ∃ (b : Booking) (q : Text), Table.lookup s.bookings i = some b ∧ b.plate = some q ∧ q ≠ p) →
    checkPlate v th x s = s.addReason v .plateMismatch) ∧
  (∀ (s : State) (v : VisitIx) (x : Visit) (th : Nat) (p : Text) (c : Nat), x.plate = some (p, c) → th ≤ c →
    (∀ i ∈ x.listed, ∀ (b : Booking) (q : Text), Table.lookup s.bookings i = some b → b.plate = some q → q = p) →
    checkPlate v th x s = s) ∧
  (∀ (s : State) (v : VisitIx) (x : Visit) (th : Nat), (x.plate = none ∨ x.listed = []) → checkPlate v th x s = s) ∧
  (∀ (s : State) (v : VisitIx) (x : Visit) (c : Text), x.card = some c →
    (∃ i ∈ x.listed, ∃ (b : Booking) (d : Text), Table.lookup s.bookings i = some b ∧ b.card = some d ∧ d ≠ c) →
    checkCard v x s = s.addReason v .cardMismatch) ∧
  (∀ (s : State) (v : VisitIx) (x : Visit) (c : Text), x.card = some c →
    (∀ i ∈ x.listed, ∀ (b : Booking) (d : Text), Table.lookup s.bookings i = some b → b.card = some d → d = c) →
    checkCard v x s = s) ∧
  (∀ (s : State) (v : VisitIx) (x : Visit), x.card = none → checkCard v x s = s) ∧
  (∀ (s : State) (v : VisitIx) (x : Visit), s.visit v = some x → ∃ (es : List (Nat × Booking)) (found : List Nat),
    es.Perm (s.bookings.filter fun p => x.card.isSome && p.2.card == x.card &&
      (match x.dir with
      | .inGate => p.2.kind == .pick && p.2.state == .opened
      | .outGate => p.2.kind == .drop && p.2.state == .entered)) ∧
    es.Pairwise (fun p q => p.2.ref ≤ q.2.ref) ∧
    found = (es.map fun p => p.1).take (match x.dir with | .inGate => 2 - x.carried.length | .outGate => 2) ∧
    matchCard v x s =
      ({ s with
          bookings := found.foldl (fun t i => Table.modify t i fun b =>
            { b with state := .held, heldFrom := some b.state, holder := some x.number }) s.bookings } : State).setVisit v
        (some { x with
          picks := found, reasons := if x.load = .bare ∧ found = [] then addBit x.reasons 0 else x.reasons })) ∧
  (∀ (s : State) (v : VisitIx) (x : Visit) (th : Nat),
    matchCarried v th x s = (x.carried.filter fun e => e.passesGate th).foldl (fun t e => matchEntry v x e t)
      (x.carried.foldl (fun t e => gateReasons v th e t) s)) ∧
  (∀ (s : State) (l : LaneId) (v : VisitIx) (p : Profile), s.profileOf l = p →
    admissionLookup l v s = onVisit v (checkWindows v) (onVisit v (checkCard v) (onVisit v (checkPlate v p.plateThreshold)
      (onVisit v (matchCard v) (onVisit v (matchCarried v p.codeThreshold) s))))) ∧
  (∀ (s : State) (v : VisitIx) (f : Visit → State → State) (x : Visit), s.visit v = some x → onVisit v f s = f x s) ∧
  (∀ (s : State) (v : VisitIx) (x : Visit) (a : Nat), x.dir = .inGate → x.arrival = some a →
    checkWindows v x s =
      ((x.carried.filterMap fun (e : Carried) => e.booking.map fun i => (i, some e.position)) ++ x.picks.map fun i => (i, none)).foldl
        (fun (t : State) (p : Nat × Option Position) => judgeWindow v a p.1 p.2 t) s) ∧
  (∀ (s : State) (v : VisitIx) (x : Visit), x.dir = .inGate → x.arrival = none → x.listed ≠ [] →
    checkWindows v x s = s.addReason v .clockUnset) ∧
  (∀ (s : State) (v : VisitIx) (x : Visit), x.dir = .outGate → checkWindows v x s = s) ∧
  (∀ (s : State) (c : Nat), s.currentWindow = some c → ∃ (k : Clock) (w : Window), s.clock = some k ∧ s.window c = some w ∧
    w.start ≤ k.minute ∧ k.minute ≤ w.start + w.length - 1 ∧
    ∀ (d : Nat) (w' : Window), d < c → s.window d = some w' → ¬ (w'.start ≤ k.minute ∧ k.minute ≤ w'.start + w'.length - 1)) ∧
  (∀ s : State, s.clock = none → s.currentWindow = none) ∧
  (∀ (s : State) (k : Clock) (i : Nat) (w : Window), s.clock = some k → i ≤ 63 → s.window i = some w → w.start ≤ k.minute →
    k.minute ≤ w.start + w.length - 1 → ∃ c : Nat, s.currentWindow = some c ∧ c ≤ i) ∧
  (∀ (s : State) (c : Text) (k : BookingKind) (i : Nat) (b : Booking), s.liveBooking c k = some (i, b) →
    (i, b) ∈ s.bookings ∧ b.code = c ∧ b.kind = k ∧ (b.state = .opened ∨ b.state = .held ∨ b.state = .entered)) ∧
  (∀ (s : State) (c : Text) (k : BookingKind), s.liveBooking c k = none ↔
    ∀ p ∈ s.bookings, p.2.code = c → p.2.kind = k → p.2.state = .closed ∨ p.2.state = .cancelled) ∧
  (∀ (s : State) (v : VisitIx) (i c : Nat) (b : Booking) (p : Option Position) (w : Window), s.currentWindow = some c →
    s.window c = some w → c ≠ b.window → w.used < w.capacity → ∃ t : State, reslot v i b p s = t ∧
    t.bookings = Table.modify s.bookings i (fun y => { y with window := c }) ∧ t.window c = some { w with used := w.used + 1 } ∧
    (∀ o : Window, s.window b.window = some o → t.window b.window = some { o with used := o.used - 1 }) ∧
    ∀ x : Visit, s.visit v = some x → t.visit v = some { x with
      reasons := addBit x.reasons 9
      carried := x.carried.map fun e => if p = some e.position then { e with reslot := some c } else e }) ∧
  ∀ (s : State) (v : VisitIx) (i : Nat) (b : Booking) (p : Option Position),
    (∀ (c : Nat) (w : Window), s.currentWindow = some c → s.window c = some w → c = b.window ∨ w.capacity ≤ w.used) →
    reslot v i b p s = s.addReason v .lateNoSpace

/-! ## Closures, sweeps and directions -/

/-- LOAD_CLOSURE replaces an unpinned entry's list, adds an entry in the lowest-index empty place or in place of the least recent entry
neither pinned nor retained, or is FULL where every entry of the recency order is pinned or retained, IN_USE or BAD_VALUE; an entry added answers
every container that waits for it: a pin, its reads judged with the reason they give, and its visit's completion test. REMOVE_CLOSURE and SET_RETAIN
by the entry. The reply's layout is the model's (log 9). -/
def Obligations.ClosureRequests : Prop :=
  (∀ ts : List Text, sealsOk ts = true ↔ 1 ≤ ts.length ∧ ts.length ≤ 3 ∧ (∀ t ∈ ts, sealOk t = true) ∧ ts.Nodup) ∧
  (∀ (s : State) (tag : Byte) (c : Text) (ts : List Text), OpenLink .terminal s → (codeValid c = false ∨ sealsOk ts = false) →
    Answers .terminal (.loadClosure tag c ts) s ⟨tag, 0x40, .badValue, []⟩ s) ∧
  (∀ (s : State) (tag : Byte) (c : Text) (ts : List Text) (i : Nat) (e : ClosureEntry), OpenLink .terminal s → codeValid c = true →
    sealsOk ts = true → s.closureOf c = some (i, e) → 0 < e.pins →
    Answers .terminal (.loadClosure tag c ts) s ⟨tag, 0x40, .inUse, []⟩ s) ∧
  (∀ (s : State) (tag : Byte) (c : Text) (ts : List Text) (i : Nat) (e : ClosureEntry), OpenLink .terminal s → codeValid c = true →
    sealsOk ts = true → s.closureOf c = some (i, e) → e.pins = 0 →
    Answers .terminal (.loadClosure tag c ts) s ⟨tag, 0x40, .ok, 1 :: num 2 i ++ [0, 0]⟩
      { s with
        closures := Table.modify s.closures i fun y => { y with seals := ts }
        recency := i :: s.recency.filter fun j => j ≠ i }) ∧
  (∀ (s : State) (tag : Byte) (c : Text) (ts : List Text) (i : Nat), OpenLink .terminal s → codeValid c = true →
    sealsOk ts = true → (∀ p ∈ s.closures, p.2.code ≠ c) → s.closures.length < 1024 → i = Table.firstFree s.closures →
    (∀ (v : VisitIx) (x : Visit), s.visit v = some x → ∀ e ∈ x.carried, ¬ (e.code = c ∧ e.closure = .awaitingRecord)) →
    Answers .terminal (.loadClosure tag c ts) s ⟨tag, 0x40, .ok, 0 :: num 2 i ++ [0, 0]⟩
      { s with
        closures := Table.put s.closures i { code := c, seals := ts, retain := false, pins := 0 }
        recency := i :: s.recency.filter fun j => j ≠ i }) ∧
  (∀ (s : State) (tag : Byte) (c : Text) (ts : List Text) (i : Nat) (o : ClosureEntry), OpenLink .terminal s → codeValid c = true →
    sealsOk ts = true → (∀ p ∈ s.closures, p.2.code ≠ c) → 1024 ≤ s.closures.length → s.victim = some i →
    Table.lookup s.closures i = some o →
    (∀ (v : VisitIx) (x : Visit), s.visit v = some x → ∀ e ∈ x.carried, ¬ (e.code = c ∧ e.closure = .awaitingRecord)) →
    Answers .terminal (.loadClosure tag c ts) s ⟨tag, 0x40, .ok, 0 :: num 2 i ++ 1 :: o.code ++ num 2 i ++ [0]⟩
      { s with
        closures := Table.put s.closures i { code := c, seals := ts, retain := false, pins := 0 }
        recency := i :: s.recency.filter fun j => j ≠ i }) ∧
  (∀ (s : State) (tag : Byte) (c : Text) (ts : List Text), OpenLink .terminal s → codeValid c = true → sealsOk ts = true →
    (∀ p ∈ s.closures, p.2.code ≠ c) → 1024 ≤ s.closures.length → s.victim = none →
    Answers .terminal (.loadClosure tag c ts) s ⟨tag, 0x40, .full, []⟩ s) ∧
  (∀ (s : State) (i : Nat), s.victim = some i → ∃ (n : Nat) (e : ClosureEntry), s.recency[n]? = some i ∧
    Table.lookup s.closures i = some e ∧ e.pins = 0 ∧ e.retain = false ∧
    ∀ (m j : Nat) (d : ClosureEntry), n < m → s.recency[m]? = some j → Table.lookup s.closures j = some d →
      0 < d.pins ∨ d.retain = true) ∧
  (∀ s : State, s.victim = none ↔ ∀ i ∈ s.recency, ∀ e : ClosureEntry, Table.lookup s.closures i = some e →
    0 < e.pins ∨ e.retain = true) ∧
  (∀ (s : State) (tag : Byte) (c : Text) (ts : List Text) (i : Nat) (ev : List Byte), OpenLink .terminal s → codeValid c = true →
    sealsOk ts = true → (∀ p ∈ s.closures, p.2.code ≠ c) →
    ((s.closures.length < 1024 ∧ i = Table.firstFree s.closures ∧ ev = [0]) ∨
      (1024 ≤ s.closures.length ∧ s.victim = some i ∧ ∃ o : ClosureEntry, Table.lookup s.closures i = some o ∧
        ev = 1 :: o.code ++ num 2 i)) →
    Sends .terminal (.loadClosure tag c ts) s
      ⟨tag, 0x40, .ok, 0 :: num 2 i ++ ev ++ num 1 ((allVisits.map fun v => match s.visit v with
        | some x => (x.carried.filter fun e => e.code == c && e.closure == .awaitingRecord).length
        | none => 0).sum)⟩
      (allVisits.foldl (fun u v => answerVisit c i ts u v)
        { s with
          closures := Table.put s.closures i { code := c, seals := ts, retain := false, pins := 0 }
          recency := i :: s.recency.filter fun j => j ≠ i })) ∧
  (∀ (s : State) (c : Text) (i : Nat) (ts : List Text) (v : VisitIx) (x : Visit) (l : LaneId), s.visit v = some x →
    x.lane = some l → (∃ e ∈ x.carried, e.code = c ∧ e.closure = .awaitingRecord) →
    answerVisit c i ts s v = completionTest l v
      ((x.carried.filter fun e => e.code == c && e.closure == .awaitingRecord).foldl (fun u e => answerEntry v i ts e u) s)) ∧
  (∀ (s : State) (c : Text) (i : Nat) (ts : List Text) (v : VisitIx),
    (∀ x : Visit, s.visit v = some x → ∀ e ∈ x.carried, ¬ (e.code = c ∧ e.closure = .awaitingRecord)) →
    answerVisit c i ts s v = s) ∧
  (∀ (s : State) (v : VisitIx) (i : Nat) (ts : List Text) (e : Carried) (x : Visit) (o : ClosureOutcome), s.visit v = some x →
    judgeReads .listed ts [] e.reads = o →
    answerEntry v i ts e s =
      ({ s with closures := Table.modify s.closures i fun y => { y with pins := y.pins + 1 } } : State).setVisit v
        (some { x.modEntry e.position (fun d => { d with closureIx := some i, closure := o }) with
          reasons := match o with | .mismatch => addBit x.reasons 12 | .broken => addBit x.reasons 13 | _ => x.reasons })) ∧
  (∀ (s : State) (tag : Byte) (c : Text) (b : Bool) (i : Nat) (e : ClosureEntry), OpenLink .terminal s → codeForm c = true →
    s.closureOf c = some (i, e) → e.pins = 0 →
    Answers .terminal (.removeClosure tag c) s ⟨tag, 0x41, .ok, []⟩
      { s with closures := Table.remove s.closures i, recency := s.recency.filter fun j => j ≠ i } ∧
    Answers .terminal (.setRetain tag c b) s ⟨tag, 0x42, .ok, []⟩
      { s with closures := Table.modify s.closures i fun y => { y with retain := b } }) ∧
  (∀ (s : State) (tag : Byte) (c : Text) (b : Bool) (i : Nat) (e : ClosureEntry), OpenLink .terminal s → codeForm c = true →
    s.closureOf c = some (i, e) → 0 < e.pins →
    Answers .terminal (.removeClosure tag c) s ⟨tag, 0x41, .inUse, []⟩ s ∧
    Answers .terminal (.setRetain tag c b) s ⟨tag, 0x42, .inUse, []⟩ s) ∧
  (∀ (s : State) (tag : Byte) (c : Text) (b : Bool), OpenLink .terminal s → codeForm c = true →
    (∀ p ∈ s.closures, p.2.code ≠ c) →
    Answers .terminal (.removeClosure tag c) s ⟨tag, 0x41, .notFound, []⟩ s ∧
    Answers .terminal (.setRetain tag c b) s ⟨tag, 0x42, .notFound, []⟩ s) ∧
  ∀ (s : State) (tag : Byte) (c : Text) (b : Bool), OpenLink .terminal s → codeForm c = false →
    Answers .terminal (.removeClosure tag c) s ⟨tag, 0x41, .badValue, []⟩ s ∧
    Answers .terminal (.setRetain tag c b) s ⟨tag, 0x42, .badValue, []⟩ s

/-- The reads of the tables answer what stands at the place named, by the layouts of log 9, and change nothing; READ_SWEEP gives each field
of the last sweep, its match states among them, after a presence byte, absent after a reset; READ_CLOSURE and READ_HOLD the entry or the mark
empty; bookings, windows, the clock, Closure Table and Hold List entries and first-fault pointers are given field by field. -/
def Obligations.TableReads : Prop :=
  sweepInfoBytes none = [0, 0, 0, 0, 0, 0] ∧
  (∀ i : SweepInfo, sweepInfoBytes (some i) =
    [1] ++ num 2 i.visit ++ [1] ++ maskBytes i.positions ++ [1] ++ maskBytes i.panels ++ [1] ++ maskBytes i.rules ++ [1] ++ num 2 i.applied
      ++ [1] ++ i.states.flatMap fun m => num 1 m.countdown ++ flagByte m.armed ++ flagByte m.fired) ∧
  (∀ (s : State) (i : Nat), Table.lookup s.closures i = none → s.closureReply i = [0] ++ num 2 s.closures.length) ∧
  (∀ (s : State) (i : Nat) (e : ClosureEntry), Table.lookup s.closures i = some e → s.closureReply i =
    [1] ++ num 2 i ++ e.code ++ textsBytes e.seals ++ flagByte e.retain ++ num 1 e.pins ++ num 2 (s.recency.idxOf i)
      ++ num 2 s.closures.length) ∧
  (∀ (i : Nat) (b : Booking), bookingBytes i b =
    num 2 i ++ num 4 b.ref ++ num 1 b.kind.toCode ++ b.code ++ optBytes textBytes b.card ++ optBytes textBytes b.plate
      ++ num 1 b.window ++ num 1 b.closure.toCode ++ num 1 b.yard ++ num 1 b.state.toCode
      ++ optBytes (fun (c : BookingState) => num 1 c.toCode) b.heldFrom ++ optBytes (num 2) b.holder) ∧
  (∀ w : Window, windowBytes w = num 3 w.start ++ num 1 w.length ++ num 1 w.capacity ++ num 1 w.used) ∧
  (clockBytes none = [0] ∧ ∀ c : Clock, clockBytes (some c) = [1] ++ num 3 c.minute ++ num 1 c.second) ∧
  (pointerBytes none = [0] ∧ ∀ k : FaultKind, pointerBytes (some k) = [1] ++ num 1 k.toCode) ∧
  (∀ (s : State) (i : Nat), Table.lookup s.holdList i = none → s.holdReply i = [0] ++ num 2 s.holdList.length) ∧
  (∀ (s : State) (i : Nat) (h : HoldEntry), Table.lookup s.holdList i = some h → s.holdReply i =
    [1] ++ num 2 i ++ h.code ++ num 1 h.kind.toCode ++ num 4 h.ref ++ optBytes (num 3) h.placed ++ num 2 s.holdList.length) ∧
  (∀ (s : State) (tag : Byte), OpenLink .terminal s →
    (∀ i : Fin 8, Answers .terminal (.readProfile tag i.val) s ⟨tag, 0x19, .ok, (s.profiles.get i).encode⟩ s) ∧
    Answers .terminal (.readPolicy tag) s ⟨tag, 0x26, .ok, s.policy.toList.flatMap fun c => num 1 c.toCode⟩ s ∧
    (∀ (r i : Nat) (b : Booking), r ≤ 4294967295 → s.bookingOf r = some (i, b) →
      Answers .terminal (.readBooking tag (.ref r)) s ⟨tag, 0x33, .ok, 1 :: bookingBytes i b⟩ s) ∧
    (∀ i : Nat, i ≤ 4095 → Answers .terminal (.readBooking tag (.index i)) s
      ⟨tag, 0x33, .ok, optBytes (bookingBytes i) (Table.lookup s.bookings i)⟩ s) ∧
    (∀ i : Nat, i ≤ 63 → Answers .terminal (.readWindow tag i) s ⟨tag, 0x37, .ok, optBytes windowBytes (s.window i)⟩ s) ∧
    Answers .terminal (.readClock tag) s ⟨tag, 0x39, .ok, clockBytes s.clock ++ num 1 s.earlySlack ++ num 1 s.lateSlack⟩ s ∧
    (∀ i : Nat, i ≤ 1023 → Answers .terminal (.readClosure tag (.index i)) s ⟨tag, 0x43, .ok, s.closureReply i⟩ s) ∧
    (∀ (c : Text) (i : Nat) (e : ClosureEntry), codeForm c = true → s.closureOf c = some (i, e) →
      Answers .terminal (.readClosure tag (.code c)) s ⟨tag, 0x43, .ok, s.closureReply i⟩ s) ∧
    (∀ r i : Nat, r ≤ 1023 → s.recency[r]? = some i →
      Answers .terminal (.readClosure tag (.rank r)) s ⟨tag, 0x43, .ok, s.closureReply i⟩ s) ∧
    (∀ i : Fin 16, Answers .terminal (.readRule tag i.val) s ⟨tag, 0x49, .ok, (s.rules.get i).encode⟩ s) ∧
    (∀ l : LaneId, Answers .terminal (.readSweep tag l.val) s
      ⟨tag, 0x4A, .ok, num 1 (s.lane l).sweep.phase.toCode ++ num 2 (s.lane l).sweep.next.toNat
        ++ optBytes (fun (b : BitVec 16) => num 2 b.toNat) (s.lane l).sweep.last
        ++ optBytes (fun (e : SweepEnd) => num 1 e.toCode) (s.lane l).sweep.lastEnd ++ sweepInfoBytes (s.lane l).sweep.info⟩ s) ∧
    (∀ i : Fin 64, Answers .terminal (.readDirection tag i.val) s
      ⟨tag, 0x52, .ok, optBytes Direction.encode (s.directions.get i)⟩ s) ∧
    (∀ i : Nat, i ≤ 127 → Answers .terminal (.readMessage tag i) s ⟨tag, 0x54, .ok, textBytes (s.message i)⟩ s) ∧
    (∀ p : PortId, Answers .terminal (.readFaults tag p.val) s
      ⟨tag, 0x7B, .ok, kindBytes p.val (s.faults.get p).status ++ kindBytes p.val (s.faults.get p).mask
        ++ (if p.val < 16 then maskBytes (s.faults.get p).severity else []) ++ pointerBytes (s.faults.get p).pointer
        ++ textBytes (s.faults.get p).log ++ flagByte (s.faults.get p).stale⟩ s) ∧
    Answers .terminal (.readStatus tag) s
      ⟨tag, 0x71, .ok, num 1 s.resetCause.toCode ++ clockBytes s.clock
        ++ num 1 (allVisits.filter fun v => (s.visit v).isSome).length ++ num 1 s.closing.length ++ num 1 s.parked.length
        ++ num 1 s.baysHeld ++ num 1 s.bayCount ++ num 1 s.records.length ++ [s.recordTag] ++ num 1 s.auth.state.toCode
        ++ flagByte s.frozen ++ maskBytes s.enables⟩ s) ∧
  (∀ (s : State) (tag : Byte) (c : Text) (k : BookingKind), OpenLink .terminal s → codeForm c = true →
    (∃ p ∈ s.bookings, p.2.code = c ∧ p.2.kind = k) → ∃ es : List (Nat × Booking),
    Answers .terminal (.findBooking tag c k) s
      ⟨tag, 0x34, .ok, num 2 (s.bookings.filter fun p => p.2.isOf c k).length
        ++ listOf (fun p => bookingBytes p.1 p.2) (es.take 8)⟩ s ∧
    es.Perm (s.bookings.filter fun p => p.2.isOf c k) ∧
    ∃ live dead : List (Nat × Booking), es = live ++ dead ∧ (∀ p ∈ live, p.2.live = true) ∧ (∀ p ∈ dead, p.2.live = false) ∧
      dead.Pairwise fun p q => p.2.ref ≤ q.2.ref) ∧
  (∀ (s : State) (k : Link) (tag : Byte), OpenLink k s →
    (∀ i : Nat, i ≤ 511 → Answers k (.readHold k tag (.index i)) s ⟨tag, 0x62, .ok, s.holdReply i⟩ s) ∧
    (∀ (c : Text) (i : Nat) (h : HoldEntry), codeForm c = true → s.holdOf c = some (i, h) →
      Answers k (.readHold k tag (.code c)) s ⟨tag, 0x62, .ok, s.holdReply i⟩ s) ∧
    (∀ c : Text, codeForm c = true → (∀ p ∈ s.holdList, p.2.code ≠ c) →
      Answers k (.readHold k tag (.code c)) s ⟨tag, 0x62, .notFound, []⟩ s) ∧
    (∀ c : Text, codeForm c = false → Answers k (.readHold k tag (.code c)) s ⟨tag, 0x62, .badValue, []⟩ s) ∧
    (∀ i : Nat, 511 < i → Answers k (.readHold k tag (.index i)) s ⟨tag, 0x62, .badValue, []⟩ s) ∧
    (∀ i : Fin 8, Answers k (.readSlot k tag i.val) s ⟨tag, 0x69, .ok, s.slots.get i⟩ s) ∧
    (∀ i : Nat, 7 < i → Answers k (.readSlot k tag i) s ⟨tag, 0x69, .badValue, []⟩ s) ∧
    Answers k (.readNotice k tag) s
      ⟨tag, 0x67, .ok, match k with
        | .terminal => maskBytes s.termWord ++ maskBytes s.termMask
        | .authority => maskBytes s.authWord ++ maskBytes s.authMask⟩ s) ∧
  ∀ (s : State) (tag : Byte), OpenLink .terminal s →
    (∀ i : Nat, 7 < i → Answers .terminal (.readProfile tag i) s ⟨tag, 0x19, .badValue, []⟩ s) ∧
    (∀ r : Nat, r ≤ 4294967295 → (∀ p ∈ s.bookings, p.2.ref ≠ r) →
      Answers .terminal (.readBooking tag (.ref r)) s ⟨tag, 0x33, .notFound, []⟩ s) ∧
    (∀ i : Nat, 4095 < i → Answers .terminal (.readBooking tag (.index i)) s ⟨tag, 0x33, .badValue, []⟩ s) ∧
    (∀ (c : Text) (k : BookingKind), codeForm c = false → Answers .terminal (.findBooking tag c k) s ⟨tag, 0x34, .badValue, []⟩ s) ∧
    (∀ (c : Text) (k : BookingKind), codeForm c = true → (∀ p ∈ s.bookings, ¬ (p.2.code = c ∧ p.2.kind = k)) →
      Answers .terminal (.findBooking tag c k) s ⟨tag, 0x34, .notFound, []⟩ s) ∧
    (∀ i : Nat, 63 < i → Answers .terminal (.readWindow tag i) s ⟨tag, 0x37, .badValue, []⟩ s) ∧
    (∀ i : Nat, 1023 < i → Answers .terminal (.readClosure tag (.index i)) s ⟨tag, 0x43, .badValue, []⟩ s ∧
      Answers .terminal (.readClosure tag (.rank i)) s ⟨tag, 0x43, .badValue, []⟩ s) ∧
    (∀ r : Nat, r ≤ 1023 → s.recency.length ≤ r → Answers .terminal (.readClosure tag (.rank r)) s ⟨tag, 0x43, .notFound, []⟩ s) ∧
    (∀ c : Text, codeForm c = false → Answers .terminal (.readClosure tag (.code c)) s ⟨tag, 0x43, .badValue, []⟩ s) ∧
    (∀ c : Text, codeForm c = true → (∀ p ∈ s.closures, p.2.code ≠ c) →
      Answers .terminal (.readClosure tag (.code c)) s ⟨tag, 0x43, .notFound, []⟩ s) ∧
    (∀ i : Nat, 15 < i → Answers .terminal (.readRule tag i) s ⟨tag, 0x49, .badValue, []⟩ s ∧
      Answers .terminal (.readSweep tag i) s ⟨tag, 0x4A, .badValue, []⟩ s) ∧
    (∀ i : Nat, 63 < i → Answers .terminal (.readDirection tag i) s ⟨tag, 0x52, .badValue, []⟩ s) ∧
    (∀ i : Nat, 127 < i → Answers .terminal (.readMessage tag i) s ⟨tag, 0x54, .badValue, []⟩ s) ∧
    ∀ i : Nat, 17 < i → Answers .terminal (.readFaults tag i) s ⟨tag, 0x7B, .badValue, []⟩ s

/-- WRITE_RULE writes a rule and reloads the unfired match states of the running sweeps that have it; WRITE_DIRECTION keeps class and key
unique; CLEAR_DIRECTION and WRITE_MESSAGE write their place; BAD_VALUE for what is out of range. A direction is looked up by class and route key,
then by class and ANY, and its SHOW has the entry's arrow, the message rendered with the key and the visit number, and the trail mark. -/
def Obligations.RulesDirectionsMessages : Prop :=
  (∀ (s : State) (tag : Byte) (i : Fin 16) (r : Rule), OpenLink .terminal s → ruleOk r = true → ∃ u : State,
    Answers .terminal (.writeRule tag i.val r) s ⟨tag, 0x48, .ok, []⟩ u ∧
    u = { s with rules := s.rules.set i.val r, lanes := u.lanes } ∧
    ∀ l : LaneId, u.lane l =
      if (s.lane l).sweep.phase = .running then
        { s.lane l with
          sweep := { (s.lane l).sweep with
            info := (s.lane l).sweep.info.map fun n => { n with
              states := n.states.map fun m =>
                if m.rule = i ∧ m.fired = false then { m with countdown := r.tolerance, armed := false } else m } } }
      else s.lane l) ∧
  (∀ (s : State) (tag : Byte) (i : Nat) (r : Rule), OpenLink .terminal s → (15 < i ∨ ruleOk r = false) →
    Answers .terminal (.writeRule tag i r) s ⟨tag, 0x48, .badValue, []⟩ s) ∧
  (∀ r : Rule, ruleOk r = true ↔ matcherOk r.a = true ∧ (∀ m : Matcher, r.b = some m → matcherOk m = true) ∧
    (r.b = none → r.combine = .either) ∧ r.tolerance ≤ 63) ∧
  (∀ m : Matcher, matcherOk m = true ↔ (m.panels ≠ 0 ∧ m.panels.toNat < 64) ∧ (m.defects ≠ 0 ∧ m.defects.toNat < 64) ∧
    m.value ≤ (match m.measure with | .severity => 15 | .extent => 1023)) ∧
  (∀ (s : State) (tag : Byte) (i : Fin 64) (e : Direction), OpenLink .terminal s → directionOk e = true →
    (∀ (j : Fin 64) (d : Direction), j ≠ i → s.directions.get j = some d → ¬ (d.cls = e.cls ∧ d.key = e.key)) →
    Answers .terminal (.writeDirection tag i.val e) s ⟨tag, 0x50, .ok, []⟩
      { s with directions := s.directions.set i.val (some e) }) ∧
  (∀ (s : State) (tag : Byte) (i j : Fin 64) (e d : Direction), OpenLink .terminal s → directionOk e = true → j ≠ i →
    s.directions.get j = some d → d.cls = e.cls → d.key = e.key →
    Answers .terminal (.writeDirection tag i.val e) s ⟨tag, 0x50, .duplicate, []⟩ s) ∧
  (∀ (s : State) (tag : Byte) (i : Nat) (e : Direction), OpenLink .terminal s → (63 < i ∨ directionOk e = false) →
    Answers .terminal (.writeDirection tag i e) s ⟨tag, 0x50, .badValue, []⟩ s) ∧
  (∀ e : Direction, directionOk e = true ↔ e.message ≤ 127 ∧ ∀ k : Nat, e.key = some k → k ≤ 254) ∧
  (∀ (s : State) (tag : Byte) (i : Fin 64), OpenLink .terminal s →
    Answers .terminal (.clearDirection tag i.val) s ⟨tag, 0x51, .ok, []⟩
      { s with directions := s.directions.set i.val none }) ∧
  (∀ (s : State) (tag : Byte) (i : Nat), OpenLink .terminal s → 63 < i →
    Answers .terminal (.clearDirection tag i) s ⟨tag, 0x51, .badValue, []⟩ s) ∧
  (∀ (s : State) (tag : Byte) (i : Fin 128) (t : Text), OpenLink .terminal s → itemsOk t = true →
    Answers .terminal (.writeMessage tag i.val t) s ⟨tag, 0x53, .ok, []⟩ { s with messages := s.messages.set i.val t }) ∧
  (∀ (s : State) (tag : Byte) (i : Nat) (t : Text), OpenLink .terminal s → (127 < i ∨ itemsOk t = false) →
    Answers .terminal (.writeMessage tag i t) s ⟨tag, 0x53, .badValue, []⟩ s) ∧
  (∀ t : Text, itemsOk t = true ↔ t.length ≤ 40 ∧ ∀ b ∈ t, isTextChar b = true ∨ b = 1 ∨ b = 2) ∧
  (∀ (s : State) (c : DirClass) (k : Nat) (i : Fin 64) (e : Direction), s.directions.get i = some e → e.cls = c → e.key = some k →
    ∃ d : Direction, s.lookupDirection c (some k) = some d ∧ d.cls = c ∧ d.key = some k) ∧
  (∀ (s : State) (c : DirClass) (k : Option Nat), (∀ (i : Fin 64) (e : Direction), s.directions.get i = some e →
      ¬ (e.cls = c ∧ e.key = k)) → s.lookupDirection c k = s.lookupDirection c none) ∧
  (∀ (s : State) (c : DirClass) (i : Fin 64) (e : Direction), s.directions.get i = some e → e.cls = c → e.key = none →
    ∃ d : Direction, s.lookupDirection c none = some d ∧ d.cls = c ∧ d.key = none) ∧
  (∀ (s : State) (c : DirClass), (∀ (i : Fin 64) (e : Direction), s.directions.get i = some e → ¬ (e.cls = c ∧ e.key = none)) →
    s.lookupDirection c none = none) ∧
  (dirClassOf .admitted .inGate = .admitIn ∧ dirClassOf .admitted .outGate = .admitOut ∧
    ∀ d : Dir, dirClassOf .refer d = .refer ∧ dirClassOf .reject d = .reject) ∧
  (∀ (s : State) (x : Visit), s.routeKey x .admitOut = some 0 ∧ s.routeKey x .refer = x.bay ∧ s.routeKey x .reject = some 0) ∧
  (∀ (s : State) (x : Visit) (i : Nat) (rest : List Nat), (x.carried.filterMap fun e => e.booking) ++ x.picks = i :: rest →
    s.routeKey x .admitIn = (Table.lookup s.bookings i).map fun b => b.yard) ∧
  (∀ (s : State) (x : Visit), (∀ e ∈ x.carried, e.booking = none) → x.picks = [] → s.routeKey x .admitIn = none) ∧
  (∀ (s : State) (l : LaneId) (x : Visit) (vd : Verdict) (k : Option Nat) (e : Direction), s.routeKey x (dirClassOf vd x.dir) = k →
    s.lookupDirection (dirClassOf vd x.dir) k = some e →
    s.directionShow l x vd =
      ⟨e.arrow, renderItems k (some x.number) (s.message e.message), some ⟨x.number, (s.lane l).dirRef⟩⟩ ∧
    s.isUndirected x vd = false) ∧
  (∀ (s : State) (l : LaneId) (x : Visit) (vd : Verdict),
    s.lookupDirection (dirClassOf vd x.dir) (s.routeKey x (dirClassOf vd x.dir)) = none →
    s.directionShow l x vd = ⟨.noArrow, [], some ⟨x.number, (s.lane l).dirRef⟩⟩ ∧ s.isUndirected x vd = true) ∧
  ∀ (key visit : Option Nat) (t : Text),
    renderItems key visit t = (List.flatMap (fun (b : Byte) => (
      if b = 1 then (match key with | some n => decimal n | none => [])
      else if b = 2 then (match visit with | some n => decimal n | none => [])
      else [b] : Text)) t).take 40

/-- TRAIL_FREEZE, TRAIL_READ and TRAIL_THAW; an entry is appended only while the trail is thawed, the oldest of 32 giving way, and its
serial is the counter's. The replies' bodies, TRAIL_FREEZE's count and TRAIL_READ's entry, then the cursor position and the trail's length, are
laid out by the model's reading (log 9), and the entry gives the fields of R141 in its order. -/
def Obligations.DecisionTrail : Prop :=
  (∀ (s : State) (tag : Byte), OpenLink .terminal s →
    Answers .terminal (.trailFreeze tag) s ⟨tag, 0x55, .ok, num 1 s.trail.length⟩
      { s with frozen := true, cursor := if s.trail = [] then none else some 0 } ∧
    Answers .terminal (.trailThaw tag) s ⟨tag, 0x57, .ok, []⟩ { s with frozen := false, cursor := none }) ∧
  (∀ (s : State) (tag : Byte), OpenLink .terminal s → s.frozen = false →
    Answers .terminal (.trailRead tag) s ⟨tag, 0x56, .state, []⟩ s) ∧
  (∀ (s : State) (tag : Byte), OpenLink .terminal s → s.frozen = true → s.trail = [] →
    Answers .terminal (.trailRead tag) s ⟨tag, 0x56, .notFound, []⟩ s) ∧
  (∀ (s : State) (tag : Byte) (c : Nat) (e : TrailEntry), OpenLink .terminal s → s.frozen = true → s.cursor = some c →
    s.trail[c]? = some e →
    Answers .terminal (.trailRead tag) s ⟨tag, 0x56, .ok, e.encode ++ num 1 c ++ num 1 s.trail.length⟩
      { s with cursor := some (if c + 1 < s.trail.length then c + 1 else 0) }) ∧
  (∀ e : TrailEntry, e.encode =
    num 2 e.serial.toNat ++ num 2 e.visit ++ num 1 e.lane.val ++ num 1 e.verdict.toCode ++ maskBytes e.reasons ++ num 1 e.cause.toCode
      ++ optBytes (num 3) e.minute ++ flagByte e.shown) ∧
  (∀ (c : TrailCause) (vd : Verdict) (x : Visit) (s : State), s.frozen = true → appendTrail c vd x s = s) ∧
  ∀ (c : TrailCause) (vd : Verdict) (x : Visit) (s : State), s.frozen = false →
    appendTrail c vd x s =
      { s with
        trail := (if s.trail.length < 32 then s.trail else s.trail.drop 1) ++
          [({ serial := s.serial, visit := x.number, lane := x.grantLane, verdict := vd, reasons := x.reasons, cause := c
              minute := s.clock.map fun k => k.minute, shown := false } : TrailEntry)]
        serial := s.serial + 1 }

/-! ## The authority -/

/-- ADD_HOLD and REMOVE_HOLD from the authority change the Hold List and raise HOLD_CHANGE; an ADD_HOLD reaches every open visit that
carries its code, one at a time in ascending index, each with all it causes before the next is looked at, and the reply lists them by number and state. FULL,
NOT_FOUND and BAD_VALUE where refused; DENIED from the terminal. The count byte before the matched list is the model's layout (log 9), and that
DENIED is answered before the body is looked at is its reading (log 8); that a hold reference wider than its 4 bytes is BAD_VALUE its choice
(log 16). -/
def Obligations.HoldRequests : Prop :=
  (∀ (s t : State) (tag : Byte) (c : Text) (k : HoldKind) (ref : Nat), OpenLink .authority s → codeValid c = true →
    ref ≤ 4294967295 → (∀ p ∈ s.holdList, p.2.code ≠ c) → s.holdList.length < 512 →
    t = raiseEvent .holdChange 0 { s with
      holdList := Table.put s.holdList (Table.firstFree s.holdList) ⟨c, k, ref, s.clock.map fun m => m.minute⟩ } →
    Sends .authority (.addHold .authority tag c k ref) s
      ⟨tag, 0x60, .ok, 0 :: num 2 (Table.firstFree s.holdList)
        ++ listOf (holdVisits c k t).2.matchedBytes (holdVisits c k t).1⟩ (holdVisits c k t).2) ∧
  (∀ (s t : State) (tag : Byte) (c : Text) (k : HoldKind) (ref i : Nat) (h : HoldEntry), OpenLink .authority s →
    codeValid c = true → ref ≤ 4294967295 → s.holdOf c = some (i, h) →
    t = raiseEvent .holdChange 0 { s with holdList := Table.modify s.holdList i fun e => { e with kind := k, ref := ref } } →
    Sends .authority (.addHold .authority tag c k ref) s
      ⟨tag, 0x60, .ok, 1 :: num 2 i ++ listOf (holdVisits c k t).2.matchedBytes (holdVisits c k t).1⟩ (holdVisits c k t).2) ∧
  (∀ (s : State) (v : VisitIx) (x : Visit), s.visit v = some x → s.matchedBytes v = num 2 x.number ++ num 1 x.state.toCode) ∧
  (∀ (s : State) (c : Text) (k : HoldKind),
    (holdVisits c k s).1 = allVisits.filter fun v => match s.visit v with | some x => x.carries c | none => false) ∧
  (∀ (s : State) (c : Text) (k : HoldKind),
    (holdVisits c k s).2 = (List.finRange 24).foldl (fun t v =>
      match t.visit v with
      | some x => if x.carried.any (fun e => e.code = c) then applyHold c k v x t else t
      | none => t) s) ∧
  (∀ (s : State) (c : Text) (k : HoldKind),
    (∀ (v : VisitIx) (x : Visit), s.visit v = some x → ∀ e ∈ x.carried, e.code ≠ c) → holdVisits c k s = ([], s)) ∧
  (∀ (s : State) (tag : Byte) (c : Text) (k : HoldKind) (ref : Nat), OpenLink .authority s → codeValid c = true →
    ref ≤ 4294967295 → (∀ p ∈ s.holdList, p.2.code ≠ c) → 512 ≤ s.holdList.length →
    Answers .authority (.addHold .authority tag c k ref) s ⟨tag, 0x60, .full, []⟩ s) ∧
  (∀ (s : State) (tag : Byte) (c : Text) (k : HoldKind) (ref : Nat), OpenLink .authority s →
    (codeValid c = false ∨ 4294967295 < ref) →
    Answers .authority (.addHold .authority tag c k ref) s ⟨tag, 0x60, .badValue, []⟩ s) ∧
  (∀ (s : State) (tag : Byte) (c : Text) (i : Nat) (h : HoldEntry), OpenLink .authority s → codeForm c = true →
    s.holdOf c = some (i, h) →
    Sends .authority (.removeHold .authority tag c) s ⟨tag, 0x61, .ok, []⟩
      (raiseEvent .holdChange 0 { s with holdList := Table.remove s.holdList i })) ∧
  (∀ (s : State) (tag : Byte) (c : Text), OpenLink .authority s → codeForm c = true → (∀ p ∈ s.holdList, p.2.code ≠ c) →
    Answers .authority (.removeHold .authority tag c) s ⟨tag, 0x61, .notFound, []⟩ s) ∧
  (∀ (s : State) (tag : Byte) (c : Text), OpenLink .authority s → codeForm c = false →
    Answers .authority (.removeHold .authority tag c) s ⟨tag, 0x61, .badValue, []⟩ s) ∧
  ∀ (s : State) (tag : Byte) (c : Text) (k : HoldKind) (ref : Nat), OpenLink .terminal s →
    Answers .terminal (.addHold .terminal tag c k ref) s ⟨tag, 0x60, .denied, []⟩ s ∧
    Answers .terminal (.removeHold .terminal tag c) s ⟨tag, 0x61, .denied, []⟩ s

/-- What a hold does to an open visit that carries its code: the kind and AUTH_HOLD recorded with HELD_ARRIVED, nothing more while REFERRED,
only HELD_PASSED while CLOSING, and a directed ADMIT or REJECT redirected to REFER with the barrier down and a bay sought. That a free
transmitter sends the redirect's LOWER before the RAISE of the new direction is produced is the model's reading (log 6). -/
def Obligations.HoldsOnVisits : Prop :=
  (∀ (s : State) (n : Nat), raiseAuthority n s =
    { s with
      authWord := addBit s.authWord n
      attention := s.attention || (s.authWord &&& ~~~s.authMask == 0 && addBit s.authWord n &&& ~~~s.authMask != 0
        && s.auth.state == .up) }) ∧
  (∀ (s : State) (c : Text) (k : HoldKind) (v : VisitIx) (x : Visit), s.visit v = some x →
    (x.state = .identifying ∨ x.state = .checking ∨ x.state = .waitingBay ∨
      (x.state = .directed ∧ x.verdict = some .refer ∧ x.lane ≠ none)) →
    applyHold c k v x s = raiseAuthority 0 (s.setVisit v (some { x with
      carried := x.carried.map fun e => if e.code = c then { e with holdKind := some k } else e
      reasons := addBit x.reasons 19 }))) ∧
  (∀ (s : State) (c : Text) (k : HoldKind) (v : VisitIx) (x : Visit), s.visit v = some x → x.state = .referred →
    applyHold c k v x s = s.setVisit v (some { x with
      carried := x.carried.map fun e => if e.code = c then { e with holdKind := some k } else e
      reasons := addBit x.reasons 19 })) ∧
  (∀ (s : State) (c : Text) (k : HoldKind) (v : VisitIx) (x : Visit), x.state = .closing →
    applyHold c k v x s = raiseAuthority 1 s) ∧
  (∀ (s : State) (c : Text) (k : HoldKind) (v : VisitIx) (x : Visit) (l : LaneId), s.bound l = some (v, x) →
    x.state = .directed → x.verdict ≠ some .refer → ∃ (u : State) (y : Visit), applyHold c k v x s = raiseAuthority 0 u ∧
    u.authWord = s.authWord ∧ u.visit v = some y ∧ y.verdict = some .refer ∧ y.reasons = addBit x.reasons 19 ∧
    y.t2Verdict = x.t2Verdict ∧ (u.lane l).lcu.audit = (s.lane l).lcu.audit ∧ (u.lane l).lcu.holds = (s.lane l).lcu.holds ∧
    (s.freeBay = none → y.state = .waitingBay ∧ u.bayWait = s.bayWait ++ [v] ∧ (u.lane l).lcu.barrier = .down ∧
      (u.lane l).lcu.pendingDir = false ∧
      (u.lane l).port.hpShow = some ⟨.noArrow, renderItems none (some x.number) (s.message 0), none⟩ ∧
      (s.enabled .bayWait = true → u.eventFlag .bayWait (lanePort l) = true)) ∧
    ((s.lane l).lcu.barrier = .up → (s.lane l).port.line = .up → (s.lane l).port.tx = none →
      (u.lane l).port.tx = some (barrierFrame .lower (s.lane l).port.outSeq) ∧
      (u.lane l).port.lastBarrierSeq = some (s.lane l).port.outSeq) ∧
    ((s.lane l).lcu.barrier = .up → ((s.lane l).port.line = .down ∨ (s.lane l).port.tx ≠ none) →
      (u.lane l).port.tx = (s.lane l).port.tx ∧
      ((s.freeBay = none ∨ (s.lane l).lcu.holds ≠ 0) → (u.lane l).port.hpBarrier = some .lower)) ∧
    (∀ b : Nat, s.freeBay = some b → y.state = .directed ∧ y.bay = some b ∧ y.lastBay = some b ∧ u.bayWait = s.bayWait ∧
      ((s.lane l).lcu.holds = 0 → (u.lane l).lcu.barrier = .up ∧ (u.lane l).port.hpBarrier = some .raise ∧
        (u.lane l).lcu.t1 = some (s.profileOf l).barrierWindow ∧ (u.lane l).lcu.pendingDir = false ∧
        (u.lane l).port.hpShow = some (u.directionShow l y .refer)) ∧
      ((s.lane l).lcu.holds ≠ 0 → (u.lane l).lcu.barrier = .down ∧ (u.lane l).lcu.pendingDir = true ∧
        (u.lane l).port.hpShow = some ⟨.noArrow, renderItems none (some x.number) (s.message 0), none⟩)) ∧
    (s.frozen = false → u.serial = s.serial + 1 ∧ (u.lane l).dirRef = some s.serial ∧ u.trail.getLast? =
      some { serial := s.serial, visit := x.number, lane := x.grantLane, verdict := .refer, reasons := y.reasons
             cause := .redirect, minute := s.clock.map (fun m => m.minute), shown := false }) ∧
    (s.frozen = true → u.trail = s.trail ∧ (u.lane l).dirRef = none)) ∧
  (∀ (s : State) (v : VisitIx) (x : Visit), s.visit v = some x → s.carriesHeld x = true →
    holdListCheck v x s = raiseAuthority 0 (s.setVisit v (some { x with
      carried := x.carried.map fun e =>
        if e.codeValid = true then
          (match s.holdOf e.code with | some (_, h) => { e with holdKind := some h.kind } | none => e)
        else e
      reasons := addBit x.reasons 19 }))) ∧
  (∀ (s : State) (v : VisitIx) (x : Visit), s.visit v = some x → s.carriesHeld x = false → holdListCheck v x s = s) ∧
  ∀ (s : State) (x : Visit), s.carriesHeld x = true ↔ ∃ e ∈ x.carried, e.codeValid = true ∧ ∃ p ∈ s.holdList, p.2.code = e.code

/-- The notice requests change the word or mask of their party and are answered with it; the owner is told where flags come to present;
the terminal may not raise flags 0 to 2; either link writes the message slots. That RAISE_NOTICE is answered with the word it acted on and that
word's mask is the model's reading (log 9). -/
def Obligations.NoticesAndSlots : Prop :=
  (∀ (s : State) (tag : Byte) (f : BitVec 16), OpenLink .terminal s → f &&& 7 = 0 →
    Sends .terminal (.raiseNotice .terminal tag f) s
      ⟨tag, 0x63, .ok, maskBytes (s.authWord ||| f) ++ maskBytes s.authMask⟩
      { s with
        authWord := s.authWord ||| f
        attention := s.attention || (s.authWord &&& ~~~s.authMask == 0 && (s.authWord ||| f) &&& ~~~s.authMask != 0
          && s.auth.state == .up) }) ∧
  (∀ (s : State) (tag : Byte) (f : BitVec 16), OpenLink .terminal s → f &&& 7 ≠ 0 →
    Answers .terminal (.raiseNotice .terminal tag f) s ⟨tag, 0x63, .badValue, []⟩ s) ∧
  (∀ (s : State) (tag : Byte) (f : BitVec 16), OpenLink .authority s →
    Sends .authority (.raiseNotice .authority tag f) s
      ⟨tag, 0x63, .ok, maskBytes (s.termWord ||| f) ++ maskBytes s.termMask⟩
      (if s.termWord &&& ~~~s.termMask = 0 ∧ (s.termWord ||| f) &&& ~~~s.termMask ≠ 0 then
        raiseEvent .notice 0 { s with termWord := s.termWord ||| f } else { s with termWord := s.termWord ||| f })) ∧
  (∀ (s : State) (tag : Byte) (f : BitVec 16), OpenLink .terminal s →
    Answers .terminal (.clearNotice .terminal tag f) s
      ⟨tag, 0x64, .ok, maskBytes (s.termWord &&& ~~~f) ++ maskBytes s.termMask⟩ { s with termWord := s.termWord &&& ~~~f } ∧
    Answers .terminal (.maskNotice .terminal tag f) s
      ⟨tag, 0x65, .ok, maskBytes s.termWord ++ maskBytes (s.termMask ||| f)⟩ { s with termMask := s.termMask ||| f } ∧
    Sends .terminal (.unmaskNotice .terminal tag f) s
      ⟨tag, 0x66, .ok, maskBytes s.termWord ++ maskBytes (s.termMask &&& ~~~f)⟩
      (if s.termWord &&& ~~~s.termMask = 0 ∧ s.termWord &&& ~~~(s.termMask &&& ~~~f) ≠ 0 then
        raiseEvent .notice 0 { s with termMask := s.termMask &&& ~~~f } else { s with termMask := s.termMask &&& ~~~f })) ∧
  (∀ (s : State) (tag : Byte) (f : BitVec 16), OpenLink .authority s →
    Answers .authority (.clearNotice .authority tag f) s
      ⟨tag, 0x64, .ok, maskBytes (s.authWord &&& ~~~f) ++ maskBytes s.authMask⟩ { s with authWord := s.authWord &&& ~~~f } ∧
    Answers .authority (.maskNotice .authority tag f) s
      ⟨tag, 0x65, .ok, maskBytes s.authWord ++ maskBytes (s.authMask ||| f)⟩ { s with authMask := s.authMask ||| f } ∧
    Sends .authority (.unmaskNotice .authority tag f) s
      ⟨tag, 0x66, .ok, maskBytes s.authWord ++ maskBytes (s.authMask &&& ~~~f)⟩
      { s with
        authMask := s.authMask &&& ~~~f
        attention := s.attention || (s.authWord &&& ~~~s.authMask == 0 && s.authWord &&& ~~~(s.authMask &&& ~~~f) != 0
          && s.auth.state == .up) }) ∧
  (∀ (s : State) (k : Link) (tag : Byte) (i : Fin 8) (bs : List Byte), OpenLink k s → bs.length = 32 →
    Answers k (.writeSlot k tag i.val bs) s ⟨tag, 0x68, .ok, []⟩ { s with slots := s.slots.set i.val bs }) ∧
  ∀ (s : State) (k : Link) (tag : Byte) (n : Nat) (bs : List Byte), OpenLink k s → (7 < n ∨ bs.length ≠ 32) →
    Answers k (.writeSlot k tag n bs) s ⟨tag, 0x68, .badValue, []⟩ s

/-! ## Status, restart and faults -/

/-- RESTART closes every lane, discards the visits, restores HELD bookings, clears pins, sweeps, trail, queues, records and event flags, and
keeps everything the terminal and the authority have loaded; frames in transmission are completed; its reply is the first frame after it. -/
def Obligations.Restart : Prop :=
  ∀ (s : State) (tag : Byte), OpenLink .terminal s → ∃ u : State,
    Sends .terminal (.restart tag) s ⟨tag, 0x72, .ok, []⟩ u ∧
    u = { s with
      lanes := u.lanes, visits := u.visits, parked := [], bayWait := [], closing := [], bookings := u.bookings
      closures := u.closures, trail := [], frozen := false, cursor := none, auth := u.auth, term := u.term, records := []
      events := u.events, turnRecord := false, resetCause := .restart } ∧
    (∀ v : VisitIx, u.visit v = none) ∧
    (u.bookings = s.bookings.map fun p => (p.1,
      match p.2.state, p.2.heldFrom with
      | .held, some st => { p.2 with state := st, heldFrom := none, holder := none }
      | _, _ => p.2)) ∧
    (u.closures = s.closures.map fun p => (p.1, { p.2 with pins := 0 })) ∧
    (∀ (k : EventKind) (p : PortId), u.eventFlag k p = false) ∧
    (∀ l : LaneId,
      (u.lane l).lcu =
        { mode := .closed, target := none, ready := 0, holds := 0, pendingDir := false, audit := 0, barrier := .down
          profile := (s.lane l).lcu.profile, t0 := none, t1 := none, t2 := none, t3 := none } ∧
      (u.lane l).port =
        { (s.lane l).port with
          lastIn := none, queue := [], hpSweep := none, hpReread := none, hpWake := false, signWait := none, signTimer := none
          collision := false
          hpBarrier := if (s.lane l).lcu.mode = .closed then none else some .lower
          hpShow := if (s.lane l).lcu.mode = .closed then none else some ⟨.noArrow, [], none⟩ } ∧
      (u.lane l).sweep =
        { (s.lane l).sweep with
          phase := .idle, info := none
          lastEnd := if (s.lane l).sweep.phase = .running then some .stopped else (s.lane l).sweep.lastEnd } ∧
      (u.lane l).dirRef = none) ∧
    (u.term.state = .up ∧ u.term.rx = s.term.rx ∧ u.term.queue = [] ∧ u.term.reply = none ∧
      u.term.tx.map MgmtTx.frame = s.term.tx.map MgmtTx.frame) ∧
    (u.auth.state = s.auth.state ∧ u.auth.rx = s.auth.rx ∧ u.auth.queue = [] ∧ u.auth.reply = none ∧
      u.auth.tx.map MgmtTx.frame = s.auth.tx.map MgmtTx.frame)

/-- SET_EVENT_ENABLE and the three fault requests that write, a port's set of kinds in 2 bytes for a lane port and 1 for a link port; and what
recording an occurrence does: the status set, the pointer, the header log and the FAULT event (a reply's order, and READ_FAULTS without the
severity set for a link port, are log 9). -/
def Obligations.EventEnablesAndFaults : Prop :=
  (∀ (p : PortId) (m : BitVec 16), kindBytes p.val m = if p.val < 16 then num 2 m.toNat else num 1 m.toNat) ∧
  (∀ (s : State) (tag : Byte) (m : BitVec 16), OpenLink .terminal s → m.toNat < 512 → ∃ u : State,
    Answers .terminal (.setEventEnable tag m) s ⟨tag, 0x70, .ok, maskBytes m⟩ u ∧
    u = { s with enables := m, events := u.events } ∧
    ∀ (k : EventKind) (p : PortId), u.eventFlag k p = (hasBit m k.toCode && s.eventFlag k p)) ∧
  (∀ (s : State) (tag : Byte) (m : BitVec 16), OpenLink .terminal s → 512 ≤ m.toNat →
    Answers .terminal (.setEventEnable tag m) s ⟨tag, 0x70, .badValue, []⟩ s) ∧
  (∀ (s : State) (tag : Byte) (p : PortId) (m : BitVec 16), OpenLink .terminal s →
    m.toNat < (if p.val < 16 then 512 else 16) → ∃ r : FaultRecord,
    Answers .terminal (.clearFaults tag p.val m) s
      ⟨tag, 0x78, .ok, kindBytes p.val r.status ++ pointerBytes r.pointer ++ flagByte r.stale⟩
      { s with faults := s.faults.set p.val r } ∧
    r.status = (s.faults.get p).status &&& ~~~m ∧ r.mask = (s.faults.get p).mask ∧ r.severity = (s.faults.get p).severity ∧
    r.log = (s.faults.get p).log ∧
    ((∃ k : FaultKind, (s.faults.get p).pointer = some k ∧ hasBit m k.toCode = true) → r.pointer = none ∧ r.stale = true) ∧
    ((∀ k : FaultKind, (s.faults.get p).pointer = some k → hasBit m k.toCode = false) →
      r.pointer = (s.faults.get p).pointer ∧ r.stale = (s.faults.get p).stale)) ∧
  (∀ (s : State) (tag : Byte) (p : PortId) (m : BitVec 16), OpenLink .terminal s →
    m.toNat < (if p.val < 16 then 512 else 16) →
    Answers .terminal (.setFaultMask tag p.val m) s ⟨tag, 0x79, .ok, kindBytes p.val m⟩
      { s with faults := s.faults.set p.val { s.faults.get p with mask := m } }) ∧
  (∀ (s : State) (tag : Byte) (p : PortId) (m : BitVec 16), OpenLink .terminal s → p.val < 16 → m.toNat < 512 →
    Answers .terminal (.setFaultSeverity tag p.val m) s ⟨tag, 0x7A, .ok, maskBytes m⟩
      { s with faults := s.faults.set p.val { s.faults.get p with severity := m } }) ∧
  (∀ (s : State) (tag : Byte) (n : Nat) (m : BitVec 16), OpenLink .terminal s → (17 < n ∨ (if n < 16 then 512 else 16) ≤ m.toNat) →
    Answers .terminal (.clearFaults tag n m) s ⟨tag, 0x78, .badValue, []⟩ s ∧
    Answers .terminal (.setFaultMask tag n m) s ⟨tag, 0x79, .badValue, []⟩ s) ∧
  (∀ (s : State) (tag : Byte) (n : Nat) (m : BitVec 16), OpenLink .terminal s → (15 < n ∨ 512 ≤ m.toNat) →
    Answers .terminal (.setFaultSeverity tag n m) s ⟨tag, 0x7A, .badValue, []⟩ s) ∧
  (∀ (k : FaultKind) (bs : List Byte) (r : FaultRecord), hasBit r.mask k.toCode = true ∨ r.pointer ≠ none →
    r.note k bs = { r with status := addBit r.status k.toCode }) ∧
  (∀ (k : FaultKind) (bs : List Byte) (r : FaultRecord), hasBit r.mask k.toCode = false → r.pointer = none →
    r.note k bs = { r with status := addBit r.status k.toCode, pointer := some k, log := bs.take 16, stale := false }) ∧
  (∀ (s : State) (p : PortId) (k : FaultKind) (bs : List Byte),
    hasBit (s.faults.get p).mask k.toCode = false → hasBit (s.faults.get p).status k.toCode = false →
    noteFault p k bs s = raiseEvent .fault p { s with faults := s.faults.set p.val ((s.faults.get p).note k bs) }) ∧
  ∀ (s : State) (p : PortId) (k : FaultKind) (bs : List Byte),
    (hasBit (s.faults.get p).mask k.toCode = true ∨ hasBit (s.faults.get p).status k.toCode = true) →
    noteFault p k bs s = { s with faults := s.faults.set p.val ((s.faults.get p).note k bs) }

/-- A request whose code names none of its link is answered UNKNOWN with UNKNOWN_CLASS recorded; a hold request on the terminal link is DENIED;
any other body that fits no layout is BAD_VALUE. That an UNKNOWN_REQUEST whose code names a request and whose body fits it is that request is the
model's choice (log 3), and that DENIED is answered whatever the body is its reading (log 8). -/
def Obligations.UnknownRequests : Prop :=
  (∀ (s : State) (k : Link) (tag c : Byte) (body : List Byte), OpenLink k s → k.knows c = false →
    Sends k (.unknownRequest k tag c body) s ⟨tag, c, .unknown, []⟩
      (noteFault (linkPort k) .unknownClass (MgmtFrame.wire ⟨1, tag, c :: body⟩) s)) ∧
  (∀ (s : State) (i : Instr) (k : Link) (tag : Byte) (r : Request), requestOf i = some (k, tag, r) → r.wf = true →
    exec (.unknownRequest k tag r.code r.encode) s = exec i s) ∧
  (∀ (s : State) (tag : Byte) (body : List Byte), OpenLink .terminal s →
    Answers .terminal (.unknownRequest .terminal tag 0x60 body) s ⟨tag, 0x60, .denied, []⟩ s ∧
    Answers .terminal (.unknownRequest .terminal tag 0x61 body) s ⟨tag, 0x61, .denied, []⟩ s) ∧
  (∀ (s : State) (k : Link) (tag c : Byte) (body : List Byte), OpenLink k s → k.knows c = true →
    ¬ (k = .terminal ∧ (c = 0x60 ∨ c = 0x61)) → parseRequest c body = none →
    Answers k (.unknownRequest k tag c body) s ⟨tag, c, .badValue, []⟩ s) ∧
  (∀ c : Byte, Link.knows .authority c = true ↔
    c ∈ [0x23#8, 0x60#8, 0x61#8, 0x62#8, 0x63#8, 0x64#8, 0x65#8, 0x66#8, 0x67#8, 0x68#8, 0x69#8]) ∧
  ∀ c : Byte, Link.knows .terminal c = true ↔
    (0x10 ≤ c.toNat ∧ c.toNat ≤ 0x1A) ∨ (0x20 ≤ c.toNat ∧ c.toNat ≤ 0x26) ∨ (0x30 ≤ c.toNat ∧ c.toNat ≤ 0x3A) ∨
    (0x40 ≤ c.toNat ∧ c.toNat ≤ 0x43) ∨ (0x48 ≤ c.toNat ∧ c.toNat ≤ 0x4A) ∨ (0x50 ≤ c.toNat ∧ c.toNat ≤ 0x57) ∨
    (0x60 ≤ c.toNat ∧ c.toNat ≤ 0x69) ∨ (0x70 ≤ c.toNat ∧ c.toNat ≤ 0x72) ∨ (0x78 ≤ c.toNat ∧ c.toNat ≤ 0x7B)

/-! ## Rules of judgement -/

/-- The verdict a reason set gives under the Reason Policy Table, and where a visit stands once its verdict is composed: the audit step
taken at ADMIT, which may hold the lane; then DIRECTED with its direction's SHOW and a RAISE produced on a lane not held, DIRECTED with its direction
pending and the wait text on a held lane, or last in the Bay Wait Queue with the wait text and BAY_WAIT raised; the trail entry, or none and the
reference absent while the trail is frozen. The sign-collision flag of the two wait texts of an audit hold is left to log 13. -/
def Obligations.VerdictComposition : Prop :=
  (∀ (p : Vector PolicyClass 19) (m : BitVec 32), hasBit m 19 = true → composedVerdict p m = .refer) ∧
  (∀ (p : Vector PolicyClass 19) (m : BitVec 32), hasBit m 19 = false →
    (∃ i : Fin 19, hasBit m i.val = true ∧ p.get i = .reject) → composedVerdict p m = .reject) ∧
  (∀ (p : Vector PolicyClass 19) (m : BitVec 32), hasBit m 19 = false →
    (∀ i : Fin 19, hasBit m i.val = true → p.get i ≠ .reject) → (∃ i : Fin 19, hasBit m i.val = true ∧ p.get i = .refer) →
    composedVerdict p m = .refer) ∧
  (∀ (p : Vector PolicyClass 19) (m : BitVec 32), hasBit m 19 = false →
    (∀ i : Fin 19, hasBit m i.val = true → p.get i = .note) → composedVerdict p m = .admitted) ∧
  (∀ (s : State) (l : LaneId) (v : VisitIx) (x : Visit) (vd : Verdict), s.bound l = some (v, x) →
    composedVerdict s.policy x.reasons = vd → ∃ (u : State) (y : Visit), composeVerdict l v s = u ∧ u.visit v = some y ∧
    y.verdict = some vd ∧ y.reasons = x.reasons ∧ y.t2Verdict = x.t2Verdict.or (s.lane l).lcu.t2 ∧
    (vd = .refer → s.freeBay = none → y.state = .waitingBay ∧ u.bayWait = s.bayWait ++ [v] ∧
      (u.lane l).port.hpShow = some ⟨.noArrow, renderItems none (some x.number) (s.message 0), none⟩ ∧
      (s.enabled .bayWait = true → u.eventFlag .bayWait (lanePort l) = true)) ∧
    (∀ b : Nat, vd = .refer → s.freeBay = some b → y.state = .directed ∧ y.bay = some b) ∧
    (vd ≠ .refer → y.state = .directed ∧ y.bay = x.bay ∧ u.bayWait = s.bayWait) ∧
    (y.state = .directed → (u.lane l).lcu.holds = 0 → (u.lane l).lcu.barrier = .up ∧
      (u.lane l).port.hpBarrier = some .raise ∧ (u.lane l).lcu.t1 = some (s.profileOf l).barrierWindow ∧
      (u.lane l).lcu.pendingDir = false ∧ (u.lane l).port.hpShow = some (u.directionShow l y vd)) ∧
    (y.state = .directed → (u.lane l).lcu.holds ≠ 0 → (u.lane l).lcu.pendingDir = true ∧
      (u.lane l).port.hpShow = some ⟨.noArrow, renderItems none (some x.number) (s.message 0), none⟩) ∧
    (vd ≠ .admitted → (u.lane l).lcu.holds = (s.lane l).lcu.holds ∧ (u.lane l).lcu.audit = (s.lane l).lcu.audit ∧
      y.holdsSeen = x.holdsSeen) ∧
    (vd = .admitted → (u.lane l).lcu.holds = ((auditStep l s).lane l).lcu.holds ∧
      (u.lane l).lcu.audit = ((auditStep l s).lane l).lcu.audit ∧ ((auditStep l s).visit v).map (fun z => z.holdsSeen) = some y.holdsSeen ∧
      ∀ q : PortId, u.eventFlag .laneHeld q = (auditStep l s).eventFlag .laneHeld q) ∧
    (s.frozen = true → (u.lane l).dirRef = none ∧ u.serial = s.serial ∧ u.trail = s.trail) ∧
    (s.frozen = false → (u.lane l).dirRef = some s.serial ∧ u.serial = s.serial + 1 ∧ u.trail.getLast? =
      some { serial := s.serial, visit := x.number, lane := x.grantLane, verdict := vd, reasons := x.reasons
             cause := .verdict, minute := s.clock.map (fun m => m.minute), shown := false })) ∧
  (∀ (s : State) (l : LaneId), (s.profileOf l).audit = 0 → auditStep l s = s) ∧
  (∀ (s : State) (l : LaneId), 0 < (s.profileOf l).audit → 0 < (s.lane l).lcu.audit →
    auditStep l s = s.modLcu l fun u => { u with audit := u.audit - 1 }) ∧
  ∀ (s : State) (l : LaneId), 0 < (s.profileOf l).audit → (s.lane l).lcu.audit = 0 →
    ((auditStep l s).lane l).lcu.audit = (s.profileOf l).audit ∧
    ((auditStep l s).lane l).lcu.holds =
      (if modeHoldable (s.lane l).lcu.mode = true then addBit (s.lane l).lcu.holds 2 else (s.lane l).lcu.holds) ∧
    (modeHoldable (s.lane l).lcu.mode = true → hasBit ((auditStep l s).lane l).lcu.holds 2 = true ∧
      ((s.lane l).lcu.holds = 0 → s.enabled .laneHeld = true → (auditStep l s).eventFlag .laneHeld (lanePort l) = true))

/-- The check value of a container code and the codes that are valid (R1). -/
def Obligations.ContainerCodes : Prop :=
  (∀ d : Nat, d < 10 → charValue (BitVec.ofNat 8 (0x30 + d)) = d) ∧
  (List.range 26).map (fun i => charValue (BitVec.ofNat 8 (0x41 + i))) =
    [10, 12, 13, 14, 15, 16, 17, 18, 19, 20, 21, 23, 24, 25, 26, 27, 28, 29, 30, 31, 32, 34, 35, 36, 37, 38] ∧
  (∀ t : Text, checkValue t =
    (if ((List.range (t.take 10).length).map fun i => charValue (t.getD i 0) * 2 ^ i).sum % 11 = 10 then 0
     else ((List.range (t.take 10).length).map fun i => charValue (t.getD i 0) * 2 ^ i).sum % 11)) ∧
  (∀ t : Text, codeValid t = true ↔ t.length = 11 ∧
    (∀ i : Nat, i < 3 → isLetter (t.getD i 0) = true) ∧ (t.getD 3 0 = 0x55 ∨ t.getD 3 0 = 0x4A ∨ t.getD 3 0 = 0x5A) ∧
    (∀ i : Nat, 4 ≤ i → i < 10 → isDigit (t.getD i 0) = true) ∧ isDigit (t.getD 10 0) = true ∧
    (t.getD 10 0).toNat = 0x30 + checkValue t) ∧
  checkValue [0x43, 0x53, 0x51, 0x55, 0x33, 0x30, 0x35, 0x34, 0x33, 0x38, 0x33] = 3 ∧
  codeValid [0x43, 0x53, 0x51, 0x55, 0x33, 0x30, 0x35, 0x34, 0x33, 0x38, 0x33] = true

/-- When a finding matches a matcher (R121). -/
def Obligations.MatcherRule : Prop :=
  (∀ (m : Matcher) (f : Finding), matcherMatches m f = true ↔
    hasBit m.panels f.panel.toCode = true ∧ hasBit m.defects f.defect.toCode = true ∧
    (match m.condition with
      | .ne => (match m.measure with | .severity => f.severity | .extent => f.extent) ≠ m.value
      | .eq => (match m.measure with | .severity => f.severity | .extent => f.extent) = m.value
      | .lt => (match m.measure with | .severity => f.severity | .extent => f.extent) < m.value
      | .gt => (match m.measure with | .severity => f.severity | .extent => f.extent) > m.value)) ∧
  (∀ (m : Matcher) (f : Finding), m.condition = .lt → m.value = 0 → matcherMatches m f = false) ∧
  (∀ (m : Matcher) (f : Finding), m.condition = .gt → m.measure = .extent → m.value = 1023 → f.extent ≤ 1023 →
    matcherMatches m f = false) ∧
  (∀ (m : Matcher) (c : Condition), matcherOk m = true ↔ matcherOk { m with condition := c } = true) ∧
  (∀ (m : Matcher) (f : Finding) (p : Position), matcherMatches m { f with position := p } = matcherMatches m f) ∧
  ∀ (s : State) (l : LaneId) (i : Fin 16) (f : Finding) (m : MatchState), s.judgedState l i f = some m →
    m.position = f.position ∧ m.rule = i

/-! ## Encodings and invariants -/

/-- Reading the body a well-formed request codes gives that request, with every field, and the encodings are those of chapter 11: numbers high
byte first, sets as masks with bit n for the member coded n, flags, texts, presence bytes, the codes of 11.4, both frames with their CRCs, and the
fields of every request body. The order of a request's fields, the count byte before a list and the 2 bytes of a matcher's value are log 8's; the
polynomials' first values and their order of bits are R182's. -/
def Obligations.ParseEncode : Prop :=
  (∀ r : Request, r.wf = true → parseRequest r.code r.encode = some r) ∧
  (∀ f : LaneFrame, f.payload.length ≤ 120 → laneFrameOf f.wire = f) ∧
  -- numbers, sets, flags, texts, optional fields and lists
  (∀ n : Nat, num 1 n = [BitVec.ofNat 8 n] ∧ num 2 n = [BitVec.ofNat 8 (n / 256), BitVec.ofNat 8 n] ∧
    num 3 n = [BitVec.ofNat 8 (n / 65536), BitVec.ofNat 8 (n / 256), BitVec.ofNat 8 n] ∧
    num 4 n = [BitVec.ofNat 8 (n / 16777216), BitVec.ofNat 8 (n / 65536), BitVec.ofNat 8 (n / 256), BitVec.ofNat 8 n]) ∧
  (∀ (m : BitVec 8) (i : Nat), maskBytes m = num 1 m.toNat ∧ (hasBit m i = true ↔ m.toNat / 2 ^ i % 2 = 1)) ∧
  (∀ (m : BitVec 16) (i : Nat), maskBytes m = num 2 m.toNat ∧ (hasBit m i = true ↔ m.toNat / 2 ^ i % 2 = 1)) ∧
  (∀ (m : BitVec 32) (i : Nat), maskBytes m = num 4 m.toNat ∧ (hasBit m i = true ↔ m.toNat / 2 ^ i % 2 = 1)) ∧
  (∀ (p : Nat) (m : BitVec 16), kindBytes p m = if p = 16 ∨ p = 17 then num 1 m.toNat else num 2 m.toNat) ∧
  (flagByte false = [0] ∧ flagByte true = [1]) ∧
  (∀ t : Text, textBytes t = num 1 t.length ++ t) ∧
  (∀ (α : Type) (enc : α → List Byte), optBytes enc none = [0] ∧ (∀ x : α, optBytes enc (some x) = [1] ++ enc x) ∧
    ∀ xs : List α, listOf enc xs = num 1 xs.length ++ xs.flatMap enc) ∧
  -- the codes of 11.4
  ([Dir.inGate, .outGate].map Dir.toCode = List.range 2 ∧ [LoadClass.bare, .one, .two].map LoadClass.toCode = List.range 3 ∧
    [Position.single, .front, .rear].map Position.toCode = List.range 3 ∧ [Source.tag, .camera].map Source.toCode = List.range 2 ∧
    [TagState.intact, .broken].map TagState.toCode = List.range 2 ∧
    [Panel.left, .right, .front, .endPanel, .roof, .floor].map Panel.toCode = List.range 6 ∧
    [Defect.dent, .hole, .crack, .bulge, .corrosion, .deform].map Defect.toCode = List.range 6 ∧
    [SweepStatus.complete, .partly, .failed].map SweepStatus.toCode = List.range 3 ∧
    [UnitKind.loop, .plate, .card, .code, .closure, .scan, .sign, .barrier].map UnitKind.toCode = List.range 8 ∧
    [BarrierCmd.raise, .lower].map BarrierCmd.toCode = List.range 2 ∧ [BarrierPos.up, .down].map BarrierPos.toCode = List.range 2 ∧
    [Arrow.straight, .left, .right, .turn, .noArrow].map Arrow.toCode = List.range 5 ∧
    [LaneMode.closed, .warming, .openIn, .openOut, .draining].map LaneMode.toCode = List.range 5 ∧
    [HoldCause.operator, .rule, .audit, .stall, .fault].map HoldCause.toCode = List.range 5 ∧
    [WindowKind.read, .check].map WindowKind.toCode = List.range 2 ∧
    [StepResult.direction, .barrier, .frame, .nothing].map StepResult.toCode = List.range 4 ∧
    [TimerState.stopped, .running, .paused].map TimerState.toCode = List.range 3 ∧
    [VisitState.free, .identifying, .checking, .waitingBay, .directed, .referred, .closing].map VisitState.toCode = List.range 7 ∧
    [Verdict.admitted, .refer, .reject].map Verdict.toCode = List.range 3 ∧
    [PolicyClass.note, .refer, .reject].map PolicyClass.toCode = List.range 3 ∧
    [CloseOutcome.admitted, .rejected, .referredAdmitted, .referredRejected, .cancelled].map CloseOutcome.toCode = List.range 5 ∧
    [ClosureOutcome.pending, .awaitingRecord, .matched, .mismatch, .broken, .missing, .unverified, .notRequired, .notChecked].map
      ClosureOutcome.toCode = List.range 9 ∧
    [DamageOutcome.pending, .clean, .minor, .survey, .incomplete, .notSwept].map DamageOutcome.toCode = List.range 6) ∧
  ([BookingKind.drop, .pick].map BookingKind.toCode = List.range 2 ∧
    [BookingState.opened, .held, .entered, .closed, .cancelled].map BookingState.toCode = List.range 5 ∧
    [ClosureReq.noCheck, .listed, .intactOnly].map ClosureReq.toCode = List.range 3 ∧
    [LoadResult.added, .replaced].map LoadResult.toCode = List.range 2 ∧ [SweepPhase.idle, .running].map SweepPhase.toCode = List.range 2 ∧
    [SweepEnd.ended, .stopped].map SweepEnd.toCode = List.range 2 ∧ [Measure.severity, .extent].map Measure.toCode = List.range 2 ∧
    [Condition.ne, .eq, .lt, .gt].map Condition.toCode = List.range 4 ∧
    [Combine.either, .both, .bAfterA, .aAfterB].map Combine.toCode = List.range 4 ∧
    [RuleAction.minor, .survey, .hold].map RuleAction.toCode = List.range 3 ∧
    [DirClass.admitIn, .admitOut, .refer, .reject].map DirClass.toCode = List.range 4 ∧
    [TrailCause.verdict, .override, .redirect, .resolve].map TrailCause.toCode = List.range 4 ∧
    [HoldKind.customs, .security, .inspection].map HoldKind.toCode = List.range 3 ∧
    [EventKind.laneMode, .laneHeld, .parked, .closureMiss, .bayWait, .fault, .authLink, .notice, .holdChange].map EventKind.toCode
      = List.range 9 ∧
    [FaultKind.badCheck, .malformed, .unknownClass, .rxOverflow, .seqGap, .unexpected, .stale, .signTimeout, .warmupFail].map
      FaultKind.toCode = List.range 9 ∧
    [ResetCause.powerOn, .resetLine, .restart].map ResetCause.toCode = List.range 3 ∧
    [LinkState.down, .up].map LinkState.toCode = List.range 2 ∧
    [Status.ok, .busy, .full, .duplicate, .notFound, .badValue, .state, .inUse, .denied, .unknown].map Status.toCode = List.range 10 ∧
    [Reason.noBooking, .bookingState, .plateMismatch, .cardMismatch, .codeInvalid, .lowConfidence, .readMissing, .readConflict, .early,
      .lateReslotted, .lateNoSpace, .clockUnset, .closureMismatch, .closureBroken, .closureMissing, .closureUnverified, .damageMinor,
      .damageSurvey, .sweepIncomplete, .authHold, .operator].map Reason.toCode = List.range 21) ∧
  -- the frames of 11.2 and 11.3 and their CRCs
  (∀ f : LaneFrame, f.wire =
    [0xA5, f.cls, f.seq] ++ num 1 f.payload.length ++ f.payload
      ++ num 2 (crc16 ([f.cls, f.seq] ++ num 1 f.payload.length ++ f.payload)).toNat) ∧
  (∀ f : MgmtFrame, f.wire =
    [0xC3, f.kind, f.tag] ++ num 2 f.body.length ++ f.body
      ++ num 4 (crc32 ([f.kind, f.tag] ++ num 2 f.body.length ++ f.body)).toNat) ∧
  (crc16 [] = 0xFFFF#16 ∧ ∀ (bs : List Byte) (b : Byte), crc16 (bs ++ [b]) =
    Nat.repeat (fun (c : BitVec 16) => if c.msb then (c <<< 1) ^^^ 0x1021#16 else c <<< 1) 8
      (crc16 bs ^^^ (BitVec.setWidth 16 b <<< 8))) ∧
  (~~~crc32 [] = 0xFFFFFFFF#32 ∧ ∀ (bs : List Byte) (b : Byte), ~~~crc32 (bs ++ [b]) =
    Nat.repeat (fun (c : BitVec 32) => if c.msb then (c <<< 1) ^^^ 0x04C11DB7#32 else c <<< 1) 8
      (~~~crc32 bs ^^^ (BitVec.setWidth 32 b <<< 24))) ∧
  -- the structures that requests carry
  (∀ p : Profile, p.encode =
    maskBytes p.required ++ num 2 p.warmup ++ num 2 p.readWindow ++ num 2 p.checkWindow ++ num 2 p.barrierWindow ++ num 1 p.signAck
      ++ flagByte p.reread ++ num 1 p.plateThreshold ++ num 1 p.codeThreshold ++ num 1 p.audit ++ maskBytes p.rules
      ++ maskBytes p.panels) ∧
  (∀ m : Matcher, m.encode =
    maskBytes m.panels ++ maskBytes m.defects ++ num 1 m.measure.toCode ++ num 1 m.condition.toCode ++ num 2 m.value) ∧
  (∀ r : Rule, r.encode =
    flagByte r.enabled ++ r.a.encode ++ optBytes Matcher.encode r.b ++ num 1 r.combine.toCode ++ num 1 r.tolerance
      ++ num 1 r.action.toCode) ∧
  (∀ d : Direction, d.encode =
    num 1 d.cls.toCode ++ num 1 (match d.key with | none => 255 | some k => k) ++ num 1 d.message ++ num 1 d.arrow.toCode) ∧
  (∀ f : BookingLoad, f.encode =
    num 4 f.ref ++ num 1 f.kind.toCode ++ f.code ++ optBytes textBytes f.card ++ optBytes textBytes f.plate ++ num 1 f.window
      ++ num 1 f.closure.toCode ++ num 1 f.yard) ∧
  -- the fields of each request body after its code; a request not named carries none
  (∀ (lane index : Nat) (d : Dir) (p : Profile) (vd : Verdict),
    (Request.openLane lane d).encode = num 1 lane ++ num 1 d.toCode ∧
    (Request.setDirection lane d).encode = num 1 lane ++ num 1 d.toCode ∧ (Request.closeLane lane).encode = num 1 lane ∧
    (Request.holdLane lane).encode = num 1 lane ∧ (Request.stepLane lane).encode = num 1 lane ∧
    (Request.resumeLane lane).encode = num 1 lane ∧ (Request.resetLane lane).encode = num 1 lane ∧
    (Request.readLane lane).encode = num 1 lane ∧ (Request.writeProfile index p).encode = num 1 index ++ p.encode ∧
    (Request.readProfile index).encode = num 1 index ∧ (Request.assignProfile lane index).encode = num 1 lane ++ num 1 index ∧
    (Request.setVerdict lane vd).encode = num 1 lane ++ num 1 vd.toCode) ∧
  (∀ (n i k : Nat) (vd : Verdict) (r : Reason) (c : PolicyClass),
    (Request.resolve n vd).encode = num 2 n ++ num 1 vd.toCode ∧ (Request.cancelVisit n).encode = num 2 n ∧
    (Request.readVisit (.number n)).encode = [0] ++ num 2 n ∧ (Request.readVisit (.index i)).encode = [1] ++ num 1 i ∧
    (Request.setBays k).encode = num 1 k ∧ (Request.writePolicy r c).encode = num 1 r.toCode ++ num 1 c.toCode) ∧
  (∀ (r i a n c : Nat) (f : BookingLoad) (t : Text) (k : BookingKind),
    (Request.loadBooking f).encode = f.encode ∧ (Request.cancelBooking r).encode = num 4 r ∧
    (Request.purgeBooking r).encode = num 4 r ∧ (Request.readBooking (.ref r)).encode = [0] ++ num 4 r ∧
    (Request.readBooking (.index i)).encode = [1] ++ num 2 i ∧ (Request.findBooking t k).encode = t ++ num 1 k.toCode ∧
    (Request.loadWindow i a n c).encode = num 1 i ++ num 3 a ++ num 1 n ++ num 1 c ∧ (Request.removeWindow i).encode = num 1 i ∧
    (Request.readWindow i).encode = num 1 i ∧ (Request.setClock a c).encode = num 3 a ++ num 1 c ∧
    (Request.setSlack a c).encode = num 1 a ++ num 1 c) ∧
  (∀ (c : Text) (ts : List Text) (b : Bool) (i : Nat),
    (Request.loadClosure c ts).encode = c ++ num 1 ts.length ++ ts.flatMap textBytes ∧ (Request.removeClosure c).encode = c ∧
    (Request.setRetain c b).encode = c ++ flagByte b ∧ (Request.readClosure (.code c)).encode = [0] ++ c ∧
    (Request.readClosure (.index i)).encode = [1] ++ num 2 i ∧ (Request.readClosure (.rank i)).encode = [2] ++ num 2 i) ∧
  (∀ (i : Nat) (r : Rule) (d : Direction) (t : Text),
    (Request.writeRule i r).encode = num 1 i ++ r.encode ∧ (Request.readRule i).encode = num 1 i ∧
    (Request.readSweep i).encode = num 1 i ∧ (Request.writeDirection i d).encode = num 1 i ++ d.encode ∧
    (Request.clearDirection i).encode = num 1 i ∧ (Request.readDirection i).encode = num 1 i ∧
    (Request.writeMessage i t).encode = num 1 i ++ textBytes t ∧ (Request.readMessage i).encode = num 1 i) ∧
  (∀ (c : Text) (k : HoldKind) (r i : Nat) (m : BitVec 16) (bs : List Byte),
    (Request.addHold c k r).encode = c ++ num 1 k.toCode ++ num 4 r ∧ (Request.removeHold c).encode = c ∧
    (Request.readHold (.code c)).encode = [0] ++ c ∧ (Request.readHold (.index i)).encode = [1] ++ num 2 i ∧
    (Request.raiseNotice m).encode = maskBytes m ∧ (Request.clearNotice m).encode = maskBytes m ∧
    (Request.maskNotice m).encode = maskBytes m ∧ (Request.unmaskNotice m).encode = maskBytes m ∧
    (Request.writeSlot i bs).encode = num 1 i ++ bs ∧ (Request.readSlot i).encode = num 1 i ∧
    (Request.setEventEnable m).encode = maskBytes m ∧ (Request.clearFaults i m).encode = num 1 i ++ kindBytes i m ∧
    (Request.setFaultMask i m).encode = num 1 i ++ kindBytes i m ∧ (Request.setFaultSeverity i m).encode = num 1 i ++ kindBytes i m ∧
    (Request.readFaults i).encode = num 1 i) ∧
  ∀ r ∈ [Request.readPolicy, .readClock, .trailFreeze, .trailRead, .trailThaw, .readNotice, .readStatus, .restart], r.encode = []

/-- Every step leaves a part whose transmitters had chosen and whose requests were served as such a part, and every queue within its size. -/
def Obligations.StepsKeepQuietAndBounds : Prop :=
  (∀ s t : State, Quiet s → step s = .next t → Quiet t) ∧
  ∀ s t : State, QueuesBounded s → step s = .next t → QueuesBounded t

/-- Every step keeps the lanes' holds and targets legal, the fault logs, the T2 counts and the Gate Clock within their ranges. -/
def Obligations.StepsKeepStateLegal : Prop :=
  (∀ s t : State, LanesLegal s → step s = .next t → LanesLegal t) ∧
  (∀ s t : State, FaultsLegal s → step s = .next t → FaultsLegal t) ∧
  (∀ s t : State, DwellBounded s → step s = .next t → DwellBounded t) ∧
  ∀ s t : State, ClockLegal s → step s = .next t → ClockLegal t

/-- Every step keeps the three large tables in ascending index within their places, and a DOWN link without request, reply or frame. -/
def Obligations.StepsKeepTablesAndLinks : Prop :=
  (∀ s t : State, TablesOrdered s → step s = .next t → TablesOrdered t) ∧
  ∀ s t : State, LinksLegal s → step s = .next t → LinksLegal t

/-- Every step keeps the visits under the law of binding: numbers unique among open visits, at most one visit on a lane and only in its four
states, REFER the verdict of each that waits for a bay or is REFERRED, each bay below the count held by one visit at most, and the Parked
Arrival Queue, the Bay Wait Queue and the CLOSING visits in their order with just the lanes and visits that belong in them. -/
def Obligations.StepsKeepVisitsLegal : Prop :=
  ∀ s t : State, VisitsLegal s → step s = .next t → VisitsLegal t

/-- Every step of a part with legal visits keeps the law of authority holds: a visit with AUTH_HOLD has no verdict but REFER, a standing Hold List
entry for a carried container of a visit past IDENTIFYING and not CLOSING comes with AUTH_HOLD, and no record ADMITTED or REJECTED has AUTH_HOLD.
By that law no visit that is open and not closing and whose carried container has a standing entry has a verdict other than REFER. -/
def Obligations.StepsKeepHoldsLegal : Prop :=
  (∀ s t : State, VisitsLegal s → HoldsLegal s → step s = .next t → HoldsLegal t) ∧
  ∀ (s : State) (v : VisitIx) (x : Visit) (vd : Verdict), HoldsLegal s → s.visit v = some x → x.state ≠ .closing →
    s.standingHold x = true → x.verdict = some vd → vd = .refer

/-- Every step of a part with legal visits and ordered tables keeps the used count of each window equal to the bookings that name it in another
state than CANCELLED, within its capacity, and the pin count of each Closure Table entry equal to the carried entries that name it. -/
def Obligations.StepsKeepCounts : Prop :=
  (∀ s t : State, VisitsLegal s → TablesOrdered s → BookingsCounted s → step s = .next t → BookingsCounted t) ∧
  ∀ s t : State, VisitsLegal s → TablesOrdered s → PinsCounted s → step s = .next t → PinsCounted t
end

