-- ==== Sys2Proof/Laws/State.lean ====
section
/-! SUPPORT. One lemma per field per update of the state, and reading a lane, a visit or a fault record over a write. -/

namespace Sys2Proof.Machine

/-! ### setLane -/

@[simp] theorem State.setLane_pending (s : State) (l : LaneId) (x : Lane) : (s.setLane l x).pending = s.pending := rfl
@[simp] theorem State.setLane_profiles (s : State) (l : LaneId) (x : Lane) : (s.setLane l x).profiles = s.profiles := rfl
@[simp] theorem State.setLane_visits (s : State) (l : LaneId) (x : Lane) : (s.setLane l x).visits = s.visits := rfl
@[simp] theorem State.setLane_visitCounter (s : State) (l : LaneId) (x : Lane) : (s.setLane l x).visitCounter = s.visitCounter := rfl
@[simp] theorem State.setLane_parked (s : State) (l : LaneId) (x : Lane) : (s.setLane l x).parked = s.parked := rfl
@[simp] theorem State.setLane_bayCount (s : State) (l : LaneId) (x : Lane) : (s.setLane l x).bayCount = s.bayCount := rfl
@[simp] theorem State.setLane_bayWait (s : State) (l : LaneId) (x : Lane) : (s.setLane l x).bayWait = s.bayWait := rfl
@[simp] theorem State.setLane_closing (s : State) (l : LaneId) (x : Lane) : (s.setLane l x).closing = s.closing := rfl
@[simp] theorem State.setLane_policy (s : State) (l : LaneId) (x : Lane) : (s.setLane l x).policy = s.policy := rfl
@[simp] theorem State.setLane_bookings (s : State) (l : LaneId) (x : Lane) : (s.setLane l x).bookings = s.bookings := rfl
@[simp] theorem State.setLane_windows (s : State) (l : LaneId) (x : Lane) : (s.setLane l x).windows = s.windows := rfl
@[simp] theorem State.setLane_clock (s : State) (l : LaneId) (x : Lane) : (s.setLane l x).clock = s.clock := rfl
@[simp] theorem State.setLane_earlySlack (s : State) (l : LaneId) (x : Lane) : (s.setLane l x).earlySlack = s.earlySlack := rfl
@[simp] theorem State.setLane_lateSlack (s : State) (l : LaneId) (x : Lane) : (s.setLane l x).lateSlack = s.lateSlack := rfl
@[simp] theorem State.setLane_closures (s : State) (l : LaneId) (x : Lane) : (s.setLane l x).closures = s.closures := rfl
@[simp] theorem State.setLane_recency (s : State) (l : LaneId) (x : Lane) : (s.setLane l x).recency = s.recency := rfl
@[simp] theorem State.setLane_rules (s : State) (l : LaneId) (x : Lane) : (s.setLane l x).rules = s.rules := rfl
@[simp] theorem State.setLane_directions (s : State) (l : LaneId) (x : Lane) : (s.setLane l x).directions = s.directions := rfl
@[simp] theorem State.setLane_messages (s : State) (l : LaneId) (x : Lane) : (s.setLane l x).messages = s.messages := rfl
@[simp] theorem State.setLane_trail (s : State) (l : LaneId) (x : Lane) : (s.setLane l x).trail = s.trail := rfl
@[simp] theorem State.setLane_serial (s : State) (l : LaneId) (x : Lane) : (s.setLane l x).serial = s.serial := rfl
@[simp] theorem State.setLane_frozen (s : State) (l : LaneId) (x : Lane) : (s.setLane l x).frozen = s.frozen := rfl
@[simp] theorem State.setLane_cursor (s : State) (l : LaneId) (x : Lane) : (s.setLane l x).cursor = s.cursor := rfl
@[simp] theorem State.setLane_holdList (s : State) (l : LaneId) (x : Lane) : (s.setLane l x).holdList = s.holdList := rfl
@[simp] theorem State.setLane_authWord (s : State) (l : LaneId) (x : Lane) : (s.setLane l x).authWord = s.authWord := rfl
@[simp] theorem State.setLane_authMask (s : State) (l : LaneId) (x : Lane) : (s.setLane l x).authMask = s.authMask := rfl
@[simp] theorem State.setLane_termWord (s : State) (l : LaneId) (x : Lane) : (s.setLane l x).termWord = s.termWord := rfl
@[simp] theorem State.setLane_termMask (s : State) (l : LaneId) (x : Lane) : (s.setLane l x).termMask = s.termMask := rfl
@[simp] theorem State.setLane_slots (s : State) (l : LaneId) (x : Lane) : (s.setLane l x).slots = s.slots := rfl
@[simp] theorem State.setLane_auth (s : State) (l : LaneId) (x : Lane) : (s.setLane l x).auth = s.auth := rfl
@[simp] theorem State.setLane_attention (s : State) (l : LaneId) (x : Lane) : (s.setLane l x).attention = s.attention := rfl
@[simp] theorem State.setLane_term (s : State) (l : LaneId) (x : Lane) : (s.setLane l x).term = s.term := rfl
@[simp] theorem State.setLane_records (s : State) (l : LaneId) (x : Lane) : (s.setLane l x).records = s.records := rfl
@[simp] theorem State.setLane_recordTag (s : State) (l : LaneId) (x : Lane) : (s.setLane l x).recordTag = s.recordTag := rfl
@[simp] theorem State.setLane_events (s : State) (l : LaneId) (x : Lane) : (s.setLane l x).events = s.events := rfl
@[simp] theorem State.setLane_enables (s : State) (l : LaneId) (x : Lane) : (s.setLane l x).enables = s.enables := rfl
@[simp] theorem State.setLane_turnRecord (s : State) (l : LaneId) (x : Lane) : (s.setLane l x).turnRecord = s.turnRecord := rfl
@[simp] theorem State.setLane_resetCause (s : State) (l : LaneId) (x : Lane) : (s.setLane l x).resetCause = s.resetCause := rfl
@[simp] theorem State.setLane_faults (s : State) (l : LaneId) (x : Lane) : (s.setLane l x).faults = s.faults := rfl

/-! ### modLane -/

@[simp] theorem State.modLane_pending (s : State) (l : LaneId) (f : Lane → Lane) : (s.modLane l f).pending = s.pending := rfl
@[simp] theorem State.modLane_profiles (s : State) (l : LaneId) (f : Lane → Lane) : (s.modLane l f).profiles = s.profiles := rfl
@[simp] theorem State.modLane_visits (s : State) (l : LaneId) (f : Lane → Lane) : (s.modLane l f).visits = s.visits := rfl
@[simp] theorem State.modLane_visitCounter (s : State) (l : LaneId) (f : Lane → Lane) : (s.modLane l f).visitCounter = s.visitCounter := rfl
@[simp] theorem State.modLane_parked (s : State) (l : LaneId) (f : Lane → Lane) : (s.modLane l f).parked = s.parked := rfl
@[simp] theorem State.modLane_bayCount (s : State) (l : LaneId) (f : Lane → Lane) : (s.modLane l f).bayCount = s.bayCount := rfl
@[simp] theorem State.modLane_bayWait (s : State) (l : LaneId) (f : Lane → Lane) : (s.modLane l f).bayWait = s.bayWait := rfl
@[simp] theorem State.modLane_closing (s : State) (l : LaneId) (f : Lane → Lane) : (s.modLane l f).closing = s.closing := rfl
@[simp] theorem State.modLane_policy (s : State) (l : LaneId) (f : Lane → Lane) : (s.modLane l f).policy = s.policy := rfl
@[simp] theorem State.modLane_bookings (s : State) (l : LaneId) (f : Lane → Lane) : (s.modLane l f).bookings = s.bookings := rfl
@[simp] theorem State.modLane_windows (s : State) (l : LaneId) (f : Lane → Lane) : (s.modLane l f).windows = s.windows := rfl
@[simp] theorem State.modLane_clock (s : State) (l : LaneId) (f : Lane → Lane) : (s.modLane l f).clock = s.clock := rfl
@[simp] theorem State.modLane_earlySlack (s : State) (l : LaneId) (f : Lane → Lane) : (s.modLane l f).earlySlack = s.earlySlack := rfl
@[simp] theorem State.modLane_lateSlack (s : State) (l : LaneId) (f : Lane → Lane) : (s.modLane l f).lateSlack = s.lateSlack := rfl
@[simp] theorem State.modLane_closures (s : State) (l : LaneId) (f : Lane → Lane) : (s.modLane l f).closures = s.closures := rfl
@[simp] theorem State.modLane_recency (s : State) (l : LaneId) (f : Lane → Lane) : (s.modLane l f).recency = s.recency := rfl
@[simp] theorem State.modLane_rules (s : State) (l : LaneId) (f : Lane → Lane) : (s.modLane l f).rules = s.rules := rfl
@[simp] theorem State.modLane_directions (s : State) (l : LaneId) (f : Lane → Lane) : (s.modLane l f).directions = s.directions := rfl
@[simp] theorem State.modLane_messages (s : State) (l : LaneId) (f : Lane → Lane) : (s.modLane l f).messages = s.messages := rfl
@[simp] theorem State.modLane_trail (s : State) (l : LaneId) (f : Lane → Lane) : (s.modLane l f).trail = s.trail := rfl
@[simp] theorem State.modLane_serial (s : State) (l : LaneId) (f : Lane → Lane) : (s.modLane l f).serial = s.serial := rfl
@[simp] theorem State.modLane_frozen (s : State) (l : LaneId) (f : Lane → Lane) : (s.modLane l f).frozen = s.frozen := rfl
@[simp] theorem State.modLane_cursor (s : State) (l : LaneId) (f : Lane → Lane) : (s.modLane l f).cursor = s.cursor := rfl
@[simp] theorem State.modLane_holdList (s : State) (l : LaneId) (f : Lane → Lane) : (s.modLane l f).holdList = s.holdList := rfl
@[simp] theorem State.modLane_authWord (s : State) (l : LaneId) (f : Lane → Lane) : (s.modLane l f).authWord = s.authWord := rfl
@[simp] theorem State.modLane_authMask (s : State) (l : LaneId) (f : Lane → Lane) : (s.modLane l f).authMask = s.authMask := rfl
@[simp] theorem State.modLane_termWord (s : State) (l : LaneId) (f : Lane → Lane) : (s.modLane l f).termWord = s.termWord := rfl
@[simp] theorem State.modLane_termMask (s : State) (l : LaneId) (f : Lane → Lane) : (s.modLane l f).termMask = s.termMask := rfl
@[simp] theorem State.modLane_slots (s : State) (l : LaneId) (f : Lane → Lane) : (s.modLane l f).slots = s.slots := rfl
@[simp] theorem State.modLane_auth (s : State) (l : LaneId) (f : Lane → Lane) : (s.modLane l f).auth = s.auth := rfl
@[simp] theorem State.modLane_attention (s : State) (l : LaneId) (f : Lane → Lane) : (s.modLane l f).attention = s.attention := rfl
@[simp] theorem State.modLane_term (s : State) (l : LaneId) (f : Lane → Lane) : (s.modLane l f).term = s.term := rfl
@[simp] theorem State.modLane_records (s : State) (l : LaneId) (f : Lane → Lane) : (s.modLane l f).records = s.records := rfl
@[simp] theorem State.modLane_recordTag (s : State) (l : LaneId) (f : Lane → Lane) : (s.modLane l f).recordTag = s.recordTag := rfl
@[simp] theorem State.modLane_events (s : State) (l : LaneId) (f : Lane → Lane) : (s.modLane l f).events = s.events := rfl
@[simp] theorem State.modLane_enables (s : State) (l : LaneId) (f : Lane → Lane) : (s.modLane l f).enables = s.enables := rfl
@[simp] theorem State.modLane_turnRecord (s : State) (l : LaneId) (f : Lane → Lane) : (s.modLane l f).turnRecord = s.turnRecord := rfl
@[simp] theorem State.modLane_resetCause (s : State) (l : LaneId) (f : Lane → Lane) : (s.modLane l f).resetCause = s.resetCause := rfl
@[simp] theorem State.modLane_faults (s : State) (l : LaneId) (f : Lane → Lane) : (s.modLane l f).faults = s.faults := rfl

/-! ### modPort -/

@[simp] theorem State.modPort_pending (s : State) (l : LaneId) (f : Port → Port) : (s.modPort l f).pending = s.pending := rfl
@[simp] theorem State.modPort_profiles (s : State) (l : LaneId) (f : Port → Port) : (s.modPort l f).profiles = s.profiles := rfl
@[simp] theorem State.modPort_visits (s : State) (l : LaneId) (f : Port → Port) : (s.modPort l f).visits = s.visits := rfl
@[simp] theorem State.modPort_visitCounter (s : State) (l : LaneId) (f : Port → Port) : (s.modPort l f).visitCounter = s.visitCounter := rfl
@[simp] theorem State.modPort_parked (s : State) (l : LaneId) (f : Port → Port) : (s.modPort l f).parked = s.parked := rfl
@[simp] theorem State.modPort_bayCount (s : State) (l : LaneId) (f : Port → Port) : (s.modPort l f).bayCount = s.bayCount := rfl
@[simp] theorem State.modPort_bayWait (s : State) (l : LaneId) (f : Port → Port) : (s.modPort l f).bayWait = s.bayWait := rfl
@[simp] theorem State.modPort_closing (s : State) (l : LaneId) (f : Port → Port) : (s.modPort l f).closing = s.closing := rfl
@[simp] theorem State.modPort_policy (s : State) (l : LaneId) (f : Port → Port) : (s.modPort l f).policy = s.policy := rfl
@[simp] theorem State.modPort_bookings (s : State) (l : LaneId) (f : Port → Port) : (s.modPort l f).bookings = s.bookings := rfl
@[simp] theorem State.modPort_windows (s : State) (l : LaneId) (f : Port → Port) : (s.modPort l f).windows = s.windows := rfl
@[simp] theorem State.modPort_clock (s : State) (l : LaneId) (f : Port → Port) : (s.modPort l f).clock = s.clock := rfl
@[simp] theorem State.modPort_earlySlack (s : State) (l : LaneId) (f : Port → Port) : (s.modPort l f).earlySlack = s.earlySlack := rfl
@[simp] theorem State.modPort_lateSlack (s : State) (l : LaneId) (f : Port → Port) : (s.modPort l f).lateSlack = s.lateSlack := rfl
@[simp] theorem State.modPort_closures (s : State) (l : LaneId) (f : Port → Port) : (s.modPort l f).closures = s.closures := rfl
@[simp] theorem State.modPort_recency (s : State) (l : LaneId) (f : Port → Port) : (s.modPort l f).recency = s.recency := rfl
@[simp] theorem State.modPort_rules (s : State) (l : LaneId) (f : Port → Port) : (s.modPort l f).rules = s.rules := rfl
@[simp] theorem State.modPort_directions (s : State) (l : LaneId) (f : Port → Port) : (s.modPort l f).directions = s.directions := rfl
@[simp] theorem State.modPort_messages (s : State) (l : LaneId) (f : Port → Port) : (s.modPort l f).messages = s.messages := rfl
@[simp] theorem State.modPort_trail (s : State) (l : LaneId) (f : Port → Port) : (s.modPort l f).trail = s.trail := rfl
@[simp] theorem State.modPort_serial (s : State) (l : LaneId) (f : Port → Port) : (s.modPort l f).serial = s.serial := rfl
@[simp] theorem State.modPort_frozen (s : State) (l : LaneId) (f : Port → Port) : (s.modPort l f).frozen = s.frozen := rfl
@[simp] theorem State.modPort_cursor (s : State) (l : LaneId) (f : Port → Port) : (s.modPort l f).cursor = s.cursor := rfl
@[simp] theorem State.modPort_holdList (s : State) (l : LaneId) (f : Port → Port) : (s.modPort l f).holdList = s.holdList := rfl
@[simp] theorem State.modPort_authWord (s : State) (l : LaneId) (f : Port → Port) : (s.modPort l f).authWord = s.authWord := rfl
@[simp] theorem State.modPort_authMask (s : State) (l : LaneId) (f : Port → Port) : (s.modPort l f).authMask = s.authMask := rfl
@[simp] theorem State.modPort_termWord (s : State) (l : LaneId) (f : Port → Port) : (s.modPort l f).termWord = s.termWord := rfl
@[simp] theorem State.modPort_termMask (s : State) (l : LaneId) (f : Port → Port) : (s.modPort l f).termMask = s.termMask := rfl
@[simp] theorem State.modPort_slots (s : State) (l : LaneId) (f : Port → Port) : (s.modPort l f).slots = s.slots := rfl
@[simp] theorem State.modPort_auth (s : State) (l : LaneId) (f : Port → Port) : (s.modPort l f).auth = s.auth := rfl
@[simp] theorem State.modPort_attention (s : State) (l : LaneId) (f : Port → Port) : (s.modPort l f).attention = s.attention := rfl
@[simp] theorem State.modPort_term (s : State) (l : LaneId) (f : Port → Port) : (s.modPort l f).term = s.term := rfl
@[simp] theorem State.modPort_records (s : State) (l : LaneId) (f : Port → Port) : (s.modPort l f).records = s.records := rfl
@[simp] theorem State.modPort_recordTag (s : State) (l : LaneId) (f : Port → Port) : (s.modPort l f).recordTag = s.recordTag := rfl
@[simp] theorem State.modPort_events (s : State) (l : LaneId) (f : Port → Port) : (s.modPort l f).events = s.events := rfl
@[simp] theorem State.modPort_enables (s : State) (l : LaneId) (f : Port → Port) : (s.modPort l f).enables = s.enables := rfl
@[simp] theorem State.modPort_turnRecord (s : State) (l : LaneId) (f : Port → Port) : (s.modPort l f).turnRecord = s.turnRecord := rfl
@[simp] theorem State.modPort_resetCause (s : State) (l : LaneId) (f : Port → Port) : (s.modPort l f).resetCause = s.resetCause := rfl
@[simp] theorem State.modPort_faults (s : State) (l : LaneId) (f : Port → Port) : (s.modPort l f).faults = s.faults := rfl

/-! ### modLcu -/

@[simp] theorem State.modLcu_pending (s : State) (l : LaneId) (f : Lcu → Lcu) : (s.modLcu l f).pending = s.pending := rfl
@[simp] theorem State.modLcu_profiles (s : State) (l : LaneId) (f : Lcu → Lcu) : (s.modLcu l f).profiles = s.profiles := rfl
@[simp] theorem State.modLcu_visits (s : State) (l : LaneId) (f : Lcu → Lcu) : (s.modLcu l f).visits = s.visits := rfl
@[simp] theorem State.modLcu_visitCounter (s : State) (l : LaneId) (f : Lcu → Lcu) : (s.modLcu l f).visitCounter = s.visitCounter := rfl
@[simp] theorem State.modLcu_parked (s : State) (l : LaneId) (f : Lcu → Lcu) : (s.modLcu l f).parked = s.parked := rfl
@[simp] theorem State.modLcu_bayCount (s : State) (l : LaneId) (f : Lcu → Lcu) : (s.modLcu l f).bayCount = s.bayCount := rfl
@[simp] theorem State.modLcu_bayWait (s : State) (l : LaneId) (f : Lcu → Lcu) : (s.modLcu l f).bayWait = s.bayWait := rfl
@[simp] theorem State.modLcu_closing (s : State) (l : LaneId) (f : Lcu → Lcu) : (s.modLcu l f).closing = s.closing := rfl
@[simp] theorem State.modLcu_policy (s : State) (l : LaneId) (f : Lcu → Lcu) : (s.modLcu l f).policy = s.policy := rfl
@[simp] theorem State.modLcu_bookings (s : State) (l : LaneId) (f : Lcu → Lcu) : (s.modLcu l f).bookings = s.bookings := rfl
@[simp] theorem State.modLcu_windows (s : State) (l : LaneId) (f : Lcu → Lcu) : (s.modLcu l f).windows = s.windows := rfl
@[simp] theorem State.modLcu_clock (s : State) (l : LaneId) (f : Lcu → Lcu) : (s.modLcu l f).clock = s.clock := rfl
@[simp] theorem State.modLcu_earlySlack (s : State) (l : LaneId) (f : Lcu → Lcu) : (s.modLcu l f).earlySlack = s.earlySlack := rfl
@[simp] theorem State.modLcu_lateSlack (s : State) (l : LaneId) (f : Lcu → Lcu) : (s.modLcu l f).lateSlack = s.lateSlack := rfl
@[simp] theorem State.modLcu_closures (s : State) (l : LaneId) (f : Lcu → Lcu) : (s.modLcu l f).closures = s.closures := rfl
@[simp] theorem State.modLcu_recency (s : State) (l : LaneId) (f : Lcu → Lcu) : (s.modLcu l f).recency = s.recency := rfl
@[simp] theorem State.modLcu_rules (s : State) (l : LaneId) (f : Lcu → Lcu) : (s.modLcu l f).rules = s.rules := rfl
@[simp] theorem State.modLcu_directions (s : State) (l : LaneId) (f : Lcu → Lcu) : (s.modLcu l f).directions = s.directions := rfl
@[simp] theorem State.modLcu_messages (s : State) (l : LaneId) (f : Lcu → Lcu) : (s.modLcu l f).messages = s.messages := rfl
@[simp] theorem State.modLcu_trail (s : State) (l : LaneId) (f : Lcu → Lcu) : (s.modLcu l f).trail = s.trail := rfl
@[simp] theorem State.modLcu_serial (s : State) (l : LaneId) (f : Lcu → Lcu) : (s.modLcu l f).serial = s.serial := rfl
@[simp] theorem State.modLcu_frozen (s : State) (l : LaneId) (f : Lcu → Lcu) : (s.modLcu l f).frozen = s.frozen := rfl
@[simp] theorem State.modLcu_cursor (s : State) (l : LaneId) (f : Lcu → Lcu) : (s.modLcu l f).cursor = s.cursor := rfl
@[simp] theorem State.modLcu_holdList (s : State) (l : LaneId) (f : Lcu → Lcu) : (s.modLcu l f).holdList = s.holdList := rfl
@[simp] theorem State.modLcu_authWord (s : State) (l : LaneId) (f : Lcu → Lcu) : (s.modLcu l f).authWord = s.authWord := rfl
@[simp] theorem State.modLcu_authMask (s : State) (l : LaneId) (f : Lcu → Lcu) : (s.modLcu l f).authMask = s.authMask := rfl
@[simp] theorem State.modLcu_termWord (s : State) (l : LaneId) (f : Lcu → Lcu) : (s.modLcu l f).termWord = s.termWord := rfl
@[simp] theorem State.modLcu_termMask (s : State) (l : LaneId) (f : Lcu → Lcu) : (s.modLcu l f).termMask = s.termMask := rfl
@[simp] theorem State.modLcu_slots (s : State) (l : LaneId) (f : Lcu → Lcu) : (s.modLcu l f).slots = s.slots := rfl
@[simp] theorem State.modLcu_auth (s : State) (l : LaneId) (f : Lcu → Lcu) : (s.modLcu l f).auth = s.auth := rfl
@[simp] theorem State.modLcu_attention (s : State) (l : LaneId) (f : Lcu → Lcu) : (s.modLcu l f).attention = s.attention := rfl
@[simp] theorem State.modLcu_term (s : State) (l : LaneId) (f : Lcu → Lcu) : (s.modLcu l f).term = s.term := rfl
@[simp] theorem State.modLcu_records (s : State) (l : LaneId) (f : Lcu → Lcu) : (s.modLcu l f).records = s.records := rfl
@[simp] theorem State.modLcu_recordTag (s : State) (l : LaneId) (f : Lcu → Lcu) : (s.modLcu l f).recordTag = s.recordTag := rfl
@[simp] theorem State.modLcu_events (s : State) (l : LaneId) (f : Lcu → Lcu) : (s.modLcu l f).events = s.events := rfl
@[simp] theorem State.modLcu_enables (s : State) (l : LaneId) (f : Lcu → Lcu) : (s.modLcu l f).enables = s.enables := rfl
@[simp] theorem State.modLcu_turnRecord (s : State) (l : LaneId) (f : Lcu → Lcu) : (s.modLcu l f).turnRecord = s.turnRecord := rfl
@[simp] theorem State.modLcu_resetCause (s : State) (l : LaneId) (f : Lcu → Lcu) : (s.modLcu l f).resetCause = s.resetCause := rfl
@[simp] theorem State.modLcu_faults (s : State) (l : LaneId) (f : Lcu → Lcu) : (s.modLcu l f).faults = s.faults := rfl

/-! ### modSweep -/

@[simp] theorem State.modSweep_pending (s : State) (l : LaneId) (f : Sweep → Sweep) : (s.modSweep l f).pending = s.pending := rfl
@[simp] theorem State.modSweep_profiles (s : State) (l : LaneId) (f : Sweep → Sweep) : (s.modSweep l f).profiles = s.profiles := rfl
@[simp] theorem State.modSweep_visits (s : State) (l : LaneId) (f : Sweep → Sweep) : (s.modSweep l f).visits = s.visits := rfl
@[simp] theorem State.modSweep_visitCounter (s : State) (l : LaneId) (f : Sweep → Sweep) : (s.modSweep l f).visitCounter = s.visitCounter := rfl
@[simp] theorem State.modSweep_parked (s : State) (l : LaneId) (f : Sweep → Sweep) : (s.modSweep l f).parked = s.parked := rfl
@[simp] theorem State.modSweep_bayCount (s : State) (l : LaneId) (f : Sweep → Sweep) : (s.modSweep l f).bayCount = s.bayCount := rfl
@[simp] theorem State.modSweep_bayWait (s : State) (l : LaneId) (f : Sweep → Sweep) : (s.modSweep l f).bayWait = s.bayWait := rfl
@[simp] theorem State.modSweep_closing (s : State) (l : LaneId) (f : Sweep → Sweep) : (s.modSweep l f).closing = s.closing := rfl
@[simp] theorem State.modSweep_policy (s : State) (l : LaneId) (f : Sweep → Sweep) : (s.modSweep l f).policy = s.policy := rfl
@[simp] theorem State.modSweep_bookings (s : State) (l : LaneId) (f : Sweep → Sweep) : (s.modSweep l f).bookings = s.bookings := rfl
@[simp] theorem State.modSweep_windows (s : State) (l : LaneId) (f : Sweep → Sweep) : (s.modSweep l f).windows = s.windows := rfl
@[simp] theorem State.modSweep_clock (s : State) (l : LaneId) (f : Sweep → Sweep) : (s.modSweep l f).clock = s.clock := rfl
@[simp] theorem State.modSweep_earlySlack (s : State) (l : LaneId) (f : Sweep → Sweep) : (s.modSweep l f).earlySlack = s.earlySlack := rfl
@[simp] theorem State.modSweep_lateSlack (s : State) (l : LaneId) (f : Sweep → Sweep) : (s.modSweep l f).lateSlack = s.lateSlack := rfl
@[simp] theorem State.modSweep_closures (s : State) (l : LaneId) (f : Sweep → Sweep) : (s.modSweep l f).closures = s.closures := rfl
@[simp] theorem State.modSweep_recency (s : State) (l : LaneId) (f : Sweep → Sweep) : (s.modSweep l f).recency = s.recency := rfl
@[simp] theorem State.modSweep_rules (s : State) (l : LaneId) (f : Sweep → Sweep) : (s.modSweep l f).rules = s.rules := rfl
@[simp] theorem State.modSweep_directions (s : State) (l : LaneId) (f : Sweep → Sweep) : (s.modSweep l f).directions = s.directions := rfl
@[simp] theorem State.modSweep_messages (s : State) (l : LaneId) (f : Sweep → Sweep) : (s.modSweep l f).messages = s.messages := rfl
@[simp] theorem State.modSweep_trail (s : State) (l : LaneId) (f : Sweep → Sweep) : (s.modSweep l f).trail = s.trail := rfl
@[simp] theorem State.modSweep_serial (s : State) (l : LaneId) (f : Sweep → Sweep) : (s.modSweep l f).serial = s.serial := rfl
@[simp] theorem State.modSweep_frozen (s : State) (l : LaneId) (f : Sweep → Sweep) : (s.modSweep l f).frozen = s.frozen := rfl
@[simp] theorem State.modSweep_cursor (s : State) (l : LaneId) (f : Sweep → Sweep) : (s.modSweep l f).cursor = s.cursor := rfl
@[simp] theorem State.modSweep_holdList (s : State) (l : LaneId) (f : Sweep → Sweep) : (s.modSweep l f).holdList = s.holdList := rfl
@[simp] theorem State.modSweep_authWord (s : State) (l : LaneId) (f : Sweep → Sweep) : (s.modSweep l f).authWord = s.authWord := rfl
@[simp] theorem State.modSweep_authMask (s : State) (l : LaneId) (f : Sweep → Sweep) : (s.modSweep l f).authMask = s.authMask := rfl
@[simp] theorem State.modSweep_termWord (s : State) (l : LaneId) (f : Sweep → Sweep) : (s.modSweep l f).termWord = s.termWord := rfl
@[simp] theorem State.modSweep_termMask (s : State) (l : LaneId) (f : Sweep → Sweep) : (s.modSweep l f).termMask = s.termMask := rfl
@[simp] theorem State.modSweep_slots (s : State) (l : LaneId) (f : Sweep → Sweep) : (s.modSweep l f).slots = s.slots := rfl
@[simp] theorem State.modSweep_auth (s : State) (l : LaneId) (f : Sweep → Sweep) : (s.modSweep l f).auth = s.auth := rfl
@[simp] theorem State.modSweep_attention (s : State) (l : LaneId) (f : Sweep → Sweep) : (s.modSweep l f).attention = s.attention := rfl
@[simp] theorem State.modSweep_term (s : State) (l : LaneId) (f : Sweep → Sweep) : (s.modSweep l f).term = s.term := rfl
@[simp] theorem State.modSweep_records (s : State) (l : LaneId) (f : Sweep → Sweep) : (s.modSweep l f).records = s.records := rfl
@[simp] theorem State.modSweep_recordTag (s : State) (l : LaneId) (f : Sweep → Sweep) : (s.modSweep l f).recordTag = s.recordTag := rfl
@[simp] theorem State.modSweep_events (s : State) (l : LaneId) (f : Sweep → Sweep) : (s.modSweep l f).events = s.events := rfl
@[simp] theorem State.modSweep_enables (s : State) (l : LaneId) (f : Sweep → Sweep) : (s.modSweep l f).enables = s.enables := rfl
@[simp] theorem State.modSweep_turnRecord (s : State) (l : LaneId) (f : Sweep → Sweep) : (s.modSweep l f).turnRecord = s.turnRecord := rfl
@[simp] theorem State.modSweep_resetCause (s : State) (l : LaneId) (f : Sweep → Sweep) : (s.modSweep l f).resetCause = s.resetCause := rfl
@[simp] theorem State.modSweep_faults (s : State) (l : LaneId) (f : Sweep → Sweep) : (s.modSweep l f).faults = s.faults := rfl

/-! ### setVisit -/

@[simp] theorem State.setVisit_pending (s : State) (v : VisitIx) (x : Option Visit) : (s.setVisit v x).pending = s.pending := rfl
@[simp] theorem State.setVisit_lanes (s : State) (v : VisitIx) (x : Option Visit) : (s.setVisit v x).lanes = s.lanes := rfl
@[simp] theorem State.setVisit_profiles (s : State) (v : VisitIx) (x : Option Visit) : (s.setVisit v x).profiles = s.profiles := rfl
@[simp] theorem State.setVisit_visitCounter (s : State) (v : VisitIx) (x : Option Visit) : (s.setVisit v x).visitCounter = s.visitCounter := rfl
@[simp] theorem State.setVisit_parked (s : State) (v : VisitIx) (x : Option Visit) : (s.setVisit v x).parked = s.parked := rfl
@[simp] theorem State.setVisit_bayCount (s : State) (v : VisitIx) (x : Option Visit) : (s.setVisit v x).bayCount = s.bayCount := rfl
@[simp] theorem State.setVisit_bayWait (s : State) (v : VisitIx) (x : Option Visit) : (s.setVisit v x).bayWait = s.bayWait := rfl
@[simp] theorem State.setVisit_closing (s : State) (v : VisitIx) (x : Option Visit) : (s.setVisit v x).closing = s.closing := rfl
@[simp] theorem State.setVisit_policy (s : State) (v : VisitIx) (x : Option Visit) : (s.setVisit v x).policy = s.policy := rfl
@[simp] theorem State.setVisit_bookings (s : State) (v : VisitIx) (x : Option Visit) : (s.setVisit v x).bookings = s.bookings := rfl
@[simp] theorem State.setVisit_windows (s : State) (v : VisitIx) (x : Option Visit) : (s.setVisit v x).windows = s.windows := rfl
@[simp] theorem State.setVisit_clock (s : State) (v : VisitIx) (x : Option Visit) : (s.setVisit v x).clock = s.clock := rfl
@[simp] theorem State.setVisit_earlySlack (s : State) (v : VisitIx) (x : Option Visit) : (s.setVisit v x).earlySlack = s.earlySlack := rfl
@[simp] theorem State.setVisit_lateSlack (s : State) (v : VisitIx) (x : Option Visit) : (s.setVisit v x).lateSlack = s.lateSlack := rfl
@[simp] theorem State.setVisit_closures (s : State) (v : VisitIx) (x : Option Visit) : (s.setVisit v x).closures = s.closures := rfl
@[simp] theorem State.setVisit_recency (s : State) (v : VisitIx) (x : Option Visit) : (s.setVisit v x).recency = s.recency := rfl
@[simp] theorem State.setVisit_rules (s : State) (v : VisitIx) (x : Option Visit) : (s.setVisit v x).rules = s.rules := rfl
@[simp] theorem State.setVisit_directions (s : State) (v : VisitIx) (x : Option Visit) : (s.setVisit v x).directions = s.directions := rfl
@[simp] theorem State.setVisit_messages (s : State) (v : VisitIx) (x : Option Visit) : (s.setVisit v x).messages = s.messages := rfl
@[simp] theorem State.setVisit_trail (s : State) (v : VisitIx) (x : Option Visit) : (s.setVisit v x).trail = s.trail := rfl
@[simp] theorem State.setVisit_serial (s : State) (v : VisitIx) (x : Option Visit) : (s.setVisit v x).serial = s.serial := rfl
@[simp] theorem State.setVisit_frozen (s : State) (v : VisitIx) (x : Option Visit) : (s.setVisit v x).frozen = s.frozen := rfl
@[simp] theorem State.setVisit_cursor (s : State) (v : VisitIx) (x : Option Visit) : (s.setVisit v x).cursor = s.cursor := rfl
@[simp] theorem State.setVisit_holdList (s : State) (v : VisitIx) (x : Option Visit) : (s.setVisit v x).holdList = s.holdList := rfl
@[simp] theorem State.setVisit_authWord (s : State) (v : VisitIx) (x : Option Visit) : (s.setVisit v x).authWord = s.authWord := rfl
@[simp] theorem State.setVisit_authMask (s : State) (v : VisitIx) (x : Option Visit) : (s.setVisit v x).authMask = s.authMask := rfl
@[simp] theorem State.setVisit_termWord (s : State) (v : VisitIx) (x : Option Visit) : (s.setVisit v x).termWord = s.termWord := rfl
@[simp] theorem State.setVisit_termMask (s : State) (v : VisitIx) (x : Option Visit) : (s.setVisit v x).termMask = s.termMask := rfl
@[simp] theorem State.setVisit_slots (s : State) (v : VisitIx) (x : Option Visit) : (s.setVisit v x).slots = s.slots := rfl
@[simp] theorem State.setVisit_auth (s : State) (v : VisitIx) (x : Option Visit) : (s.setVisit v x).auth = s.auth := rfl
@[simp] theorem State.setVisit_attention (s : State) (v : VisitIx) (x : Option Visit) : (s.setVisit v x).attention = s.attention := rfl
@[simp] theorem State.setVisit_term (s : State) (v : VisitIx) (x : Option Visit) : (s.setVisit v x).term = s.term := rfl
@[simp] theorem State.setVisit_records (s : State) (v : VisitIx) (x : Option Visit) : (s.setVisit v x).records = s.records := rfl
@[simp] theorem State.setVisit_recordTag (s : State) (v : VisitIx) (x : Option Visit) : (s.setVisit v x).recordTag = s.recordTag := rfl
@[simp] theorem State.setVisit_events (s : State) (v : VisitIx) (x : Option Visit) : (s.setVisit v x).events = s.events := rfl
@[simp] theorem State.setVisit_enables (s : State) (v : VisitIx) (x : Option Visit) : (s.setVisit v x).enables = s.enables := rfl
@[simp] theorem State.setVisit_turnRecord (s : State) (v : VisitIx) (x : Option Visit) : (s.setVisit v x).turnRecord = s.turnRecord := rfl
@[simp] theorem State.setVisit_resetCause (s : State) (v : VisitIx) (x : Option Visit) : (s.setVisit v x).resetCause = s.resetCause := rfl
@[simp] theorem State.setVisit_faults (s : State) (v : VisitIx) (x : Option Visit) : (s.setVisit v x).faults = s.faults := rfl

/-! ### modVisit -/

@[simp] theorem State.modVisit_pending (s : State) (v : VisitIx) (f : Visit → Visit) : (s.modVisit v f).pending = s.pending := rfl
@[simp] theorem State.modVisit_lanes (s : State) (v : VisitIx) (f : Visit → Visit) : (s.modVisit v f).lanes = s.lanes := rfl
@[simp] theorem State.modVisit_profiles (s : State) (v : VisitIx) (f : Visit → Visit) : (s.modVisit v f).profiles = s.profiles := rfl
@[simp] theorem State.modVisit_visitCounter (s : State) (v : VisitIx) (f : Visit → Visit) : (s.modVisit v f).visitCounter = s.visitCounter := rfl
@[simp] theorem State.modVisit_parked (s : State) (v : VisitIx) (f : Visit → Visit) : (s.modVisit v f).parked = s.parked := rfl
@[simp] theorem State.modVisit_bayCount (s : State) (v : VisitIx) (f : Visit → Visit) : (s.modVisit v f).bayCount = s.bayCount := rfl
@[simp] theorem State.modVisit_bayWait (s : State) (v : VisitIx) (f : Visit → Visit) : (s.modVisit v f).bayWait = s.bayWait := rfl
@[simp] theorem State.modVisit_closing (s : State) (v : VisitIx) (f : Visit → Visit) : (s.modVisit v f).closing = s.closing := rfl
@[simp] theorem State.modVisit_policy (s : State) (v : VisitIx) (f : Visit → Visit) : (s.modVisit v f).policy = s.policy := rfl
@[simp] theorem State.modVisit_bookings (s : State) (v : VisitIx) (f : Visit → Visit) : (s.modVisit v f).bookings = s.bookings := rfl
@[simp] theorem State.modVisit_windows (s : State) (v : VisitIx) (f : Visit → Visit) : (s.modVisit v f).windows = s.windows := rfl
@[simp] theorem State.modVisit_clock (s : State) (v : VisitIx) (f : Visit → Visit) : (s.modVisit v f).clock = s.clock := rfl
@[simp] theorem State.modVisit_earlySlack (s : State) (v : VisitIx) (f : Visit → Visit) : (s.modVisit v f).earlySlack = s.earlySlack := rfl
@[simp] theorem State.modVisit_lateSlack (s : State) (v : VisitIx) (f : Visit → Visit) : (s.modVisit v f).lateSlack = s.lateSlack := rfl
@[simp] theorem State.modVisit_closures (s : State) (v : VisitIx) (f : Visit → Visit) : (s.modVisit v f).closures = s.closures := rfl
@[simp] theorem State.modVisit_recency (s : State) (v : VisitIx) (f : Visit → Visit) : (s.modVisit v f).recency = s.recency := rfl
@[simp] theorem State.modVisit_rules (s : State) (v : VisitIx) (f : Visit → Visit) : (s.modVisit v f).rules = s.rules := rfl
@[simp] theorem State.modVisit_directions (s : State) (v : VisitIx) (f : Visit → Visit) : (s.modVisit v f).directions = s.directions := rfl
@[simp] theorem State.modVisit_messages (s : State) (v : VisitIx) (f : Visit → Visit) : (s.modVisit v f).messages = s.messages := rfl
@[simp] theorem State.modVisit_trail (s : State) (v : VisitIx) (f : Visit → Visit) : (s.modVisit v f).trail = s.trail := rfl
@[simp] theorem State.modVisit_serial (s : State) (v : VisitIx) (f : Visit → Visit) : (s.modVisit v f).serial = s.serial := rfl
@[simp] theorem State.modVisit_frozen (s : State) (v : VisitIx) (f : Visit → Visit) : (s.modVisit v f).frozen = s.frozen := rfl
@[simp] theorem State.modVisit_cursor (s : State) (v : VisitIx) (f : Visit → Visit) : (s.modVisit v f).cursor = s.cursor := rfl
@[simp] theorem State.modVisit_holdList (s : State) (v : VisitIx) (f : Visit → Visit) : (s.modVisit v f).holdList = s.holdList := rfl
@[simp] theorem State.modVisit_authWord (s : State) (v : VisitIx) (f : Visit → Visit) : (s.modVisit v f).authWord = s.authWord := rfl
@[simp] theorem State.modVisit_authMask (s : State) (v : VisitIx) (f : Visit → Visit) : (s.modVisit v f).authMask = s.authMask := rfl
@[simp] theorem State.modVisit_termWord (s : State) (v : VisitIx) (f : Visit → Visit) : (s.modVisit v f).termWord = s.termWord := rfl
@[simp] theorem State.modVisit_termMask (s : State) (v : VisitIx) (f : Visit → Visit) : (s.modVisit v f).termMask = s.termMask := rfl
@[simp] theorem State.modVisit_slots (s : State) (v : VisitIx) (f : Visit → Visit) : (s.modVisit v f).slots = s.slots := rfl
@[simp] theorem State.modVisit_auth (s : State) (v : VisitIx) (f : Visit → Visit) : (s.modVisit v f).auth = s.auth := rfl
@[simp] theorem State.modVisit_attention (s : State) (v : VisitIx) (f : Visit → Visit) : (s.modVisit v f).attention = s.attention := rfl
@[simp] theorem State.modVisit_term (s : State) (v : VisitIx) (f : Visit → Visit) : (s.modVisit v f).term = s.term := rfl
@[simp] theorem State.modVisit_records (s : State) (v : VisitIx) (f : Visit → Visit) : (s.modVisit v f).records = s.records := rfl
@[simp] theorem State.modVisit_recordTag (s : State) (v : VisitIx) (f : Visit → Visit) : (s.modVisit v f).recordTag = s.recordTag := rfl
@[simp] theorem State.modVisit_events (s : State) (v : VisitIx) (f : Visit → Visit) : (s.modVisit v f).events = s.events := rfl
@[simp] theorem State.modVisit_enables (s : State) (v : VisitIx) (f : Visit → Visit) : (s.modVisit v f).enables = s.enables := rfl
@[simp] theorem State.modVisit_turnRecord (s : State) (v : VisitIx) (f : Visit → Visit) : (s.modVisit v f).turnRecord = s.turnRecord := rfl
@[simp] theorem State.modVisit_resetCause (s : State) (v : VisitIx) (f : Visit → Visit) : (s.modVisit v f).resetCause = s.resetCause := rfl
@[simp] theorem State.modVisit_faults (s : State) (v : VisitIx) (f : Visit → Visit) : (s.modVisit v f).faults = s.faults := rfl

/-! ### setWindow -/

@[simp] theorem State.setWindow_pending (s : State) (i : Nat) (w : Option Window) : (s.setWindow i w).pending = s.pending := rfl
@[simp] theorem State.setWindow_lanes (s : State) (i : Nat) (w : Option Window) : (s.setWindow i w).lanes = s.lanes := rfl
@[simp] theorem State.setWindow_profiles (s : State) (i : Nat) (w : Option Window) : (s.setWindow i w).profiles = s.profiles := rfl
@[simp] theorem State.setWindow_visits (s : State) (i : Nat) (w : Option Window) : (s.setWindow i w).visits = s.visits := rfl
@[simp] theorem State.setWindow_visitCounter (s : State) (i : Nat) (w : Option Window) : (s.setWindow i w).visitCounter = s.visitCounter := rfl
@[simp] theorem State.setWindow_parked (s : State) (i : Nat) (w : Option Window) : (s.setWindow i w).parked = s.parked := rfl
@[simp] theorem State.setWindow_bayCount (s : State) (i : Nat) (w : Option Window) : (s.setWindow i w).bayCount = s.bayCount := rfl
@[simp] theorem State.setWindow_bayWait (s : State) (i : Nat) (w : Option Window) : (s.setWindow i w).bayWait = s.bayWait := rfl
@[simp] theorem State.setWindow_closing (s : State) (i : Nat) (w : Option Window) : (s.setWindow i w).closing = s.closing := rfl
@[simp] theorem State.setWindow_policy (s : State) (i : Nat) (w : Option Window) : (s.setWindow i w).policy = s.policy := rfl
@[simp] theorem State.setWindow_bookings (s : State) (i : Nat) (w : Option Window) : (s.setWindow i w).bookings = s.bookings := rfl
@[simp] theorem State.setWindow_clock (s : State) (i : Nat) (w : Option Window) : (s.setWindow i w).clock = s.clock := rfl
@[simp] theorem State.setWindow_earlySlack (s : State) (i : Nat) (w : Option Window) : (s.setWindow i w).earlySlack = s.earlySlack := rfl
@[simp] theorem State.setWindow_lateSlack (s : State) (i : Nat) (w : Option Window) : (s.setWindow i w).lateSlack = s.lateSlack := rfl
@[simp] theorem State.setWindow_closures (s : State) (i : Nat) (w : Option Window) : (s.setWindow i w).closures = s.closures := rfl
@[simp] theorem State.setWindow_recency (s : State) (i : Nat) (w : Option Window) : (s.setWindow i w).recency = s.recency := rfl
@[simp] theorem State.setWindow_rules (s : State) (i : Nat) (w : Option Window) : (s.setWindow i w).rules = s.rules := rfl
@[simp] theorem State.setWindow_directions (s : State) (i : Nat) (w : Option Window) : (s.setWindow i w).directions = s.directions := rfl
@[simp] theorem State.setWindow_messages (s : State) (i : Nat) (w : Option Window) : (s.setWindow i w).messages = s.messages := rfl
@[simp] theorem State.setWindow_trail (s : State) (i : Nat) (w : Option Window) : (s.setWindow i w).trail = s.trail := rfl
@[simp] theorem State.setWindow_serial (s : State) (i : Nat) (w : Option Window) : (s.setWindow i w).serial = s.serial := rfl
@[simp] theorem State.setWindow_frozen (s : State) (i : Nat) (w : Option Window) : (s.setWindow i w).frozen = s.frozen := rfl
@[simp] theorem State.setWindow_cursor (s : State) (i : Nat) (w : Option Window) : (s.setWindow i w).cursor = s.cursor := rfl
@[simp] theorem State.setWindow_holdList (s : State) (i : Nat) (w : Option Window) : (s.setWindow i w).holdList = s.holdList := rfl
@[simp] theorem State.setWindow_authWord (s : State) (i : Nat) (w : Option Window) : (s.setWindow i w).authWord = s.authWord := rfl
@[simp] theorem State.setWindow_authMask (s : State) (i : Nat) (w : Option Window) : (s.setWindow i w).authMask = s.authMask := rfl
@[simp] theorem State.setWindow_termWord (s : State) (i : Nat) (w : Option Window) : (s.setWindow i w).termWord = s.termWord := rfl
@[simp] theorem State.setWindow_termMask (s : State) (i : Nat) (w : Option Window) : (s.setWindow i w).termMask = s.termMask := rfl
@[simp] theorem State.setWindow_slots (s : State) (i : Nat) (w : Option Window) : (s.setWindow i w).slots = s.slots := rfl
@[simp] theorem State.setWindow_auth (s : State) (i : Nat) (w : Option Window) : (s.setWindow i w).auth = s.auth := rfl
@[simp] theorem State.setWindow_attention (s : State) (i : Nat) (w : Option Window) : (s.setWindow i w).attention = s.attention := rfl
@[simp] theorem State.setWindow_term (s : State) (i : Nat) (w : Option Window) : (s.setWindow i w).term = s.term := rfl
@[simp] theorem State.setWindow_records (s : State) (i : Nat) (w : Option Window) : (s.setWindow i w).records = s.records := rfl
@[simp] theorem State.setWindow_recordTag (s : State) (i : Nat) (w : Option Window) : (s.setWindow i w).recordTag = s.recordTag := rfl
@[simp] theorem State.setWindow_events (s : State) (i : Nat) (w : Option Window) : (s.setWindow i w).events = s.events := rfl
@[simp] theorem State.setWindow_enables (s : State) (i : Nat) (w : Option Window) : (s.setWindow i w).enables = s.enables := rfl
@[simp] theorem State.setWindow_turnRecord (s : State) (i : Nat) (w : Option Window) : (s.setWindow i w).turnRecord = s.turnRecord := rfl
@[simp] theorem State.setWindow_resetCause (s : State) (i : Nat) (w : Option Window) : (s.setWindow i w).resetCause = s.resetCause := rfl
@[simp] theorem State.setWindow_faults (s : State) (i : Nat) (w : Option Window) : (s.setWindow i w).faults = s.faults := rfl

/-! ### modUsed -/

@[simp] theorem State.modUsed_pending (s : State) (i : Nat) (f : Nat → Nat) : (s.modUsed i f).pending = s.pending := rfl
@[simp] theorem State.modUsed_lanes (s : State) (i : Nat) (f : Nat → Nat) : (s.modUsed i f).lanes = s.lanes := rfl
@[simp] theorem State.modUsed_profiles (s : State) (i : Nat) (f : Nat → Nat) : (s.modUsed i f).profiles = s.profiles := rfl
@[simp] theorem State.modUsed_visits (s : State) (i : Nat) (f : Nat → Nat) : (s.modUsed i f).visits = s.visits := rfl
@[simp] theorem State.modUsed_visitCounter (s : State) (i : Nat) (f : Nat → Nat) : (s.modUsed i f).visitCounter = s.visitCounter := rfl
@[simp] theorem State.modUsed_parked (s : State) (i : Nat) (f : Nat → Nat) : (s.modUsed i f).parked = s.parked := rfl
@[simp] theorem State.modUsed_bayCount (s : State) (i : Nat) (f : Nat → Nat) : (s.modUsed i f).bayCount = s.bayCount := rfl
@[simp] theorem State.modUsed_bayWait (s : State) (i : Nat) (f : Nat → Nat) : (s.modUsed i f).bayWait = s.bayWait := rfl
@[simp] theorem State.modUsed_closing (s : State) (i : Nat) (f : Nat → Nat) : (s.modUsed i f).closing = s.closing := rfl
@[simp] theorem State.modUsed_policy (s : State) (i : Nat) (f : Nat → Nat) : (s.modUsed i f).policy = s.policy := rfl
@[simp] theorem State.modUsed_bookings (s : State) (i : Nat) (f : Nat → Nat) : (s.modUsed i f).bookings = s.bookings := rfl
@[simp] theorem State.modUsed_clock (s : State) (i : Nat) (f : Nat → Nat) : (s.modUsed i f).clock = s.clock := rfl
@[simp] theorem State.modUsed_earlySlack (s : State) (i : Nat) (f : Nat → Nat) : (s.modUsed i f).earlySlack = s.earlySlack := rfl
@[simp] theorem State.modUsed_lateSlack (s : State) (i : Nat) (f : Nat → Nat) : (s.modUsed i f).lateSlack = s.lateSlack := rfl
@[simp] theorem State.modUsed_closures (s : State) (i : Nat) (f : Nat → Nat) : (s.modUsed i f).closures = s.closures := rfl
@[simp] theorem State.modUsed_recency (s : State) (i : Nat) (f : Nat → Nat) : (s.modUsed i f).recency = s.recency := rfl
@[simp] theorem State.modUsed_rules (s : State) (i : Nat) (f : Nat → Nat) : (s.modUsed i f).rules = s.rules := rfl
@[simp] theorem State.modUsed_directions (s : State) (i : Nat) (f : Nat → Nat) : (s.modUsed i f).directions = s.directions := rfl
@[simp] theorem State.modUsed_messages (s : State) (i : Nat) (f : Nat → Nat) : (s.modUsed i f).messages = s.messages := rfl
@[simp] theorem State.modUsed_trail (s : State) (i : Nat) (f : Nat → Nat) : (s.modUsed i f).trail = s.trail := rfl
@[simp] theorem State.modUsed_serial (s : State) (i : Nat) (f : Nat → Nat) : (s.modUsed i f).serial = s.serial := rfl
@[simp] theorem State.modUsed_frozen (s : State) (i : Nat) (f : Nat → Nat) : (s.modUsed i f).frozen = s.frozen := rfl
@[simp] theorem State.modUsed_cursor (s : State) (i : Nat) (f : Nat → Nat) : (s.modUsed i f).cursor = s.cursor := rfl
@[simp] theorem State.modUsed_holdList (s : State) (i : Nat) (f : Nat → Nat) : (s.modUsed i f).holdList = s.holdList := rfl
@[simp] theorem State.modUsed_authWord (s : State) (i : Nat) (f : Nat → Nat) : (s.modUsed i f).authWord = s.authWord := rfl
@[simp] theorem State.modUsed_authMask (s : State) (i : Nat) (f : Nat → Nat) : (s.modUsed i f).authMask = s.authMask := rfl
@[simp] theorem State.modUsed_termWord (s : State) (i : Nat) (f : Nat → Nat) : (s.modUsed i f).termWord = s.termWord := rfl
@[simp] theorem State.modUsed_termMask (s : State) (i : Nat) (f : Nat → Nat) : (s.modUsed i f).termMask = s.termMask := rfl
@[simp] theorem State.modUsed_slots (s : State) (i : Nat) (f : Nat → Nat) : (s.modUsed i f).slots = s.slots := rfl
@[simp] theorem State.modUsed_auth (s : State) (i : Nat) (f : Nat → Nat) : (s.modUsed i f).auth = s.auth := rfl
@[simp] theorem State.modUsed_attention (s : State) (i : Nat) (f : Nat → Nat) : (s.modUsed i f).attention = s.attention := rfl
@[simp] theorem State.modUsed_term (s : State) (i : Nat) (f : Nat → Nat) : (s.modUsed i f).term = s.term := rfl
@[simp] theorem State.modUsed_records (s : State) (i : Nat) (f : Nat → Nat) : (s.modUsed i f).records = s.records := rfl
@[simp] theorem State.modUsed_recordTag (s : State) (i : Nat) (f : Nat → Nat) : (s.modUsed i f).recordTag = s.recordTag := rfl
@[simp] theorem State.modUsed_events (s : State) (i : Nat) (f : Nat → Nat) : (s.modUsed i f).events = s.events := rfl
@[simp] theorem State.modUsed_enables (s : State) (i : Nat) (f : Nat → Nat) : (s.modUsed i f).enables = s.enables := rfl
@[simp] theorem State.modUsed_turnRecord (s : State) (i : Nat) (f : Nat → Nat) : (s.modUsed i f).turnRecord = s.turnRecord := rfl
@[simp] theorem State.modUsed_resetCause (s : State) (i : Nat) (f : Nat → Nat) : (s.modUsed i f).resetCause = s.resetCause := rfl
@[simp] theorem State.modUsed_faults (s : State) (i : Nat) (f : Nat → Nat) : (s.modUsed i f).faults = s.faults := rfl

/-! ### modFault -/

@[simp] theorem State.modFault_pending (s : State) (p : PortId) (f : FaultRecord → FaultRecord) : (s.modFault p f).pending = s.pending := rfl
@[simp] theorem State.modFault_lanes (s : State) (p : PortId) (f : FaultRecord → FaultRecord) : (s.modFault p f).lanes = s.lanes := rfl
@[simp] theorem State.modFault_profiles (s : State) (p : PortId) (f : FaultRecord → FaultRecord) : (s.modFault p f).profiles = s.profiles := rfl
@[simp] theorem State.modFault_visits (s : State) (p : PortId) (f : FaultRecord → FaultRecord) : (s.modFault p f).visits = s.visits := rfl
@[simp] theorem State.modFault_visitCounter (s : State) (p : PortId) (f : FaultRecord → FaultRecord) : (s.modFault p f).visitCounter = s.visitCounter := rfl
@[simp] theorem State.modFault_parked (s : State) (p : PortId) (f : FaultRecord → FaultRecord) : (s.modFault p f).parked = s.parked := rfl
@[simp] theorem State.modFault_bayCount (s : State) (p : PortId) (f : FaultRecord → FaultRecord) : (s.modFault p f).bayCount = s.bayCount := rfl
@[simp] theorem State.modFault_bayWait (s : State) (p : PortId) (f : FaultRecord → FaultRecord) : (s.modFault p f).bayWait = s.bayWait := rfl
@[simp] theorem State.modFault_closing (s : State) (p : PortId) (f : FaultRecord → FaultRecord) : (s.modFault p f).closing = s.closing := rfl
@[simp] theorem State.modFault_policy (s : State) (p : PortId) (f : FaultRecord → FaultRecord) : (s.modFault p f).policy = s.policy := rfl
@[simp] theorem State.modFault_bookings (s : State) (p : PortId) (f : FaultRecord → FaultRecord) : (s.modFault p f).bookings = s.bookings := rfl
@[simp] theorem State.modFault_windows (s : State) (p : PortId) (f : FaultRecord → FaultRecord) : (s.modFault p f).windows = s.windows := rfl
@[simp] theorem State.modFault_clock (s : State) (p : PortId) (f : FaultRecord → FaultRecord) : (s.modFault p f).clock = s.clock := rfl
@[simp] theorem State.modFault_earlySlack (s : State) (p : PortId) (f : FaultRecord → FaultRecord) : (s.modFault p f).earlySlack = s.earlySlack := rfl
@[simp] theorem State.modFault_lateSlack (s : State) (p : PortId) (f : FaultRecord → FaultRecord) : (s.modFault p f).lateSlack = s.lateSlack := rfl
@[simp] theorem State.modFault_closures (s : State) (p : PortId) (f : FaultRecord → FaultRecord) : (s.modFault p f).closures = s.closures := rfl
@[simp] theorem State.modFault_recency (s : State) (p : PortId) (f : FaultRecord → FaultRecord) : (s.modFault p f).recency = s.recency := rfl
@[simp] theorem State.modFault_rules (s : State) (p : PortId) (f : FaultRecord → FaultRecord) : (s.modFault p f).rules = s.rules := rfl
@[simp] theorem State.modFault_directions (s : State) (p : PortId) (f : FaultRecord → FaultRecord) : (s.modFault p f).directions = s.directions := rfl
@[simp] theorem State.modFault_messages (s : State) (p : PortId) (f : FaultRecord → FaultRecord) : (s.modFault p f).messages = s.messages := rfl
@[simp] theorem State.modFault_trail (s : State) (p : PortId) (f : FaultRecord → FaultRecord) : (s.modFault p f).trail = s.trail := rfl
@[simp] theorem State.modFault_serial (s : State) (p : PortId) (f : FaultRecord → FaultRecord) : (s.modFault p f).serial = s.serial := rfl
@[simp] theorem State.modFault_frozen (s : State) (p : PortId) (f : FaultRecord → FaultRecord) : (s.modFault p f).frozen = s.frozen := rfl
@[simp] theorem State.modFault_cursor (s : State) (p : PortId) (f : FaultRecord → FaultRecord) : (s.modFault p f).cursor = s.cursor := rfl
@[simp] theorem State.modFault_holdList (s : State) (p : PortId) (f : FaultRecord → FaultRecord) : (s.modFault p f).holdList = s.holdList := rfl
@[simp] theorem State.modFault_authWord (s : State) (p : PortId) (f : FaultRecord → FaultRecord) : (s.modFault p f).authWord = s.authWord := rfl
@[simp] theorem State.modFault_authMask (s : State) (p : PortId) (f : FaultRecord → FaultRecord) : (s.modFault p f).authMask = s.authMask := rfl
@[simp] theorem State.modFault_termWord (s : State) (p : PortId) (f : FaultRecord → FaultRecord) : (s.modFault p f).termWord = s.termWord := rfl
@[simp] theorem State.modFault_termMask (s : State) (p : PortId) (f : FaultRecord → FaultRecord) : (s.modFault p f).termMask = s.termMask := rfl
@[simp] theorem State.modFault_slots (s : State) (p : PortId) (f : FaultRecord → FaultRecord) : (s.modFault p f).slots = s.slots := rfl
@[simp] theorem State.modFault_auth (s : State) (p : PortId) (f : FaultRecord → FaultRecord) : (s.modFault p f).auth = s.auth := rfl
@[simp] theorem State.modFault_attention (s : State) (p : PortId) (f : FaultRecord → FaultRecord) : (s.modFault p f).attention = s.attention := rfl
@[simp] theorem State.modFault_term (s : State) (p : PortId) (f : FaultRecord → FaultRecord) : (s.modFault p f).term = s.term := rfl
@[simp] theorem State.modFault_records (s : State) (p : PortId) (f : FaultRecord → FaultRecord) : (s.modFault p f).records = s.records := rfl
@[simp] theorem State.modFault_recordTag (s : State) (p : PortId) (f : FaultRecord → FaultRecord) : (s.modFault p f).recordTag = s.recordTag := rfl
@[simp] theorem State.modFault_events (s : State) (p : PortId) (f : FaultRecord → FaultRecord) : (s.modFault p f).events = s.events := rfl
@[simp] theorem State.modFault_enables (s : State) (p : PortId) (f : FaultRecord → FaultRecord) : (s.modFault p f).enables = s.enables := rfl
@[simp] theorem State.modFault_turnRecord (s : State) (p : PortId) (f : FaultRecord → FaultRecord) : (s.modFault p f).turnRecord = s.turnRecord := rfl
@[simp] theorem State.modFault_resetCause (s : State) (p : PortId) (f : FaultRecord → FaultRecord) : (s.modFault p f).resetCause = s.resetCause := rfl

/-! ### Reading over writing -/

/-- A lane written reads as written. -/
@[simp] theorem State.lane_setLane_self (s : State) (l : LaneId) (x : Lane) : (s.setLane l x).lane l = x := by
  show (s.lanes.set l.val x l.isLt)[l.val] = x
  simp

/-- Writing a lane changes no other lane. -/
theorem State.lane_setLane_of_ne (s : State) {l m : LaneId} (x : Lane) (h : m ≠ l) : (s.setLane l x).lane m = s.lane m := by
  simp only [State.lane, State.setLane]
  show (s.lanes.set l.val x l.isLt)[m.val] = s.lanes[m.val]
  rw [Vector.getElem_set_ne]
  intro e; exact h (Fin.ext e.symm)

/-- A lane read after any lane is written. -/
theorem State.lane_setLane (s : State) (l m : LaneId) (x : Lane) : (s.setLane l x).lane m = if m = l then x else s.lane m := by
  by_cases h : m = l
  · subst h; simp
  · simp [h, State.lane_setLane_of_ne]

/-- A lane read after a lane is changed. -/
theorem State.lane_modLane (s : State) (l m : LaneId) (f : Lane → Lane) :
    (s.modLane l f).lane m = if m = l then f (s.lane l) else s.lane m := State.lane_setLane s l m _

/-- A lane replaced twice. -/
theorem State.setLane_setLane (s : State) (l : LaneId) (x y : Lane) : (s.setLane l x).setLane l y = s.setLane l y := by
  unfold State.setLane
  congr 1
  apply Vector.ext
  intro i hi
  simp only [Vector.getElem_set]
  split <;> rfl

/-- A lane replaced by itself. -/
theorem State.setLane_self (s : State) (l : LaneId) : s.setLane l (s.lane l) = s := by
  have : s.lanes.set l (s.lanes.get l) = s.lanes := by
    apply Vector.ext
    intro i hi
    simp only [Vector.getElem_set]
    split
    · next h => subst h; rfl
    · rfl
  unfold State.setLane State.lane
  rw [this]

/-- A lane changed twice. -/
theorem State.modLane_modLane (s : State) (l : LaneId) (f g : Lane → Lane) :
    (s.modLane l f).modLane l g = s.modLane l fun x => g (f x) := by
  unfold State.modLane
  rw [State.setLane_setLane, State.lane_setLane_self]

/-- A lane changed to itself. -/
theorem State.modLane_self (s : State) (l : LaneId) (f : Lane → Lane) (h : f (s.lane l) = s.lane l) : s.modLane l f = s := by
  unfold State.modLane
  rw [h, State.setLane_self]

/-- A visit record read after any record is written. -/
theorem State.visit_setVisit (s : State) (v w : VisitIx) (x : Option Visit) :
    (s.setVisit v x).visit w = if w = v then x else s.visit w := by
  simp only [State.visit, State.setVisit]
  show (s.visits.set v.val x v.isLt)[w.val] = _
  rw [Vector.getElem_set]
  by_cases h : w = v
  · subst h; simp
  · rw [if_neg (fun e => h (Fin.ext e.symm)), if_neg h]; rfl

/-- A visit record read after a record is changed. -/
theorem State.visit_modVisit (s : State) (v w : VisitIx) (f : Visit → Visit) :
    (s.modVisit v f).visit w = if w = v then (s.visit v).map f else s.visit w := State.visit_setVisit s v w _

/-- A fault record read after a record is changed. -/
theorem State.faults_modFault (s : State) (p q : PortId) (f : FaultRecord → FaultRecord) :
    (s.modFault p f).faults.get q = if q = p then f (s.faults.get p) else s.faults.get q := by
  show (s.faults.set p.val (f (s.faults.get p)) p.isLt)[q.val] = _
  rw [Vector.getElem_set]
  by_cases h : q = p
  · subst h; simp
  · rw [if_neg (fun e => h (Fin.ext e.symm)), if_neg h]; rfl

/-- Lanes are visited unchanged by a write to a visit record. -/
@[simp] theorem State.lane_setVisit (s : State) (v : VisitIx) (x : Option Visit) (l : LaneId) :
    (s.setVisit v x).lane l = s.lane l := rfl

/-- Lanes are unchanged by a change to a visit record. -/
@[simp] theorem State.lane_modVisit (s : State) (v : VisitIx) (f : Visit → Visit) (l : LaneId) :
    (s.modVisit v f).lane l = s.lane l := rfl

/-- Visit records are unchanged by a write to a lane. -/
@[simp] theorem State.visit_setLane (s : State) (l : LaneId) (x : Lane) (v : VisitIx) : (s.setLane l x).visit v = s.visit v := rfl

/-- Visit records are unchanged by a change to a lane. -/
@[simp] theorem State.visit_modLane (s : State) (l : LaneId) (f : Lane → Lane) (v : VisitIx) :
    (s.modLane l f).visit v = s.visit v := rfl

/-- The two links of a state. -/
@[simp] theorem State.link_terminal (s : State) : s.link .terminal = s.term := rfl

/-- The two links of a state. -/
@[simp] theorem State.link_authority (s : State) : s.link .authority = s.auth := rfl

end Sys2Proof.Machine
end

