-- ==== Sys2Proof/Laws/Outer.lean ====
section
/-! SUPPORT. What no effect touches: the two management links, the queue of commands, the alternation turn and the reset cause. One lemma
per shared operation and per owner's request (RESTART apart), so that a proof about serving need not unfold any of them. -/

set_option linter.unusedSimpArgs false

namespace Sys2Proof.Machine

/-- What every effect but the links' own leaves as it is. -/
def State.outer (s : State) : MgmtLink × MgmtLink × List Instr × Bool × ResetCause :=
  (s.term, s.auth, s.pending, s.turnRecord, s.resetCause)

/-- Steps that each keep the outer parts keep them together. -/
theorem outer_foldl {α : Type} (f : State → α → State) (h : ∀ s a, (f s a).outer = s.outer) :
    ∀ (xs : List α) (s : State), (xs.foldl f s).outer = s.outer
  | [], _ => rfl
  | a :: xs, s => (outer_foldl f h xs (f s a)).trans (h s a)

/-- A step on a visit that keeps the outer parts. -/
theorem onVisit_outer (v : VisitIx) (f : Visit → State → State) (s : State) (h : ∀ x t, (f x t).outer = t.outer) :
    (onVisit v f s).outer = s.outer := by
  unfold onVisit; split
  · exact h _ _
  · rfl

@[simp] theorem State.setLane_outer (s : State) (l : LaneId) (x : Lane) : (s.setLane l x).outer = s.outer := rfl
@[simp] theorem State.modLane_outer (s : State) (l : LaneId) (f : Lane → Lane) : (s.modLane l f).outer = s.outer := rfl
@[simp] theorem State.modPort_outer (s : State) (l : LaneId) (f : Port → Port) : (s.modPort l f).outer = s.outer := rfl
@[simp] theorem State.modLcu_outer (s : State) (l : LaneId) (f : Lcu → Lcu) : (s.modLcu l f).outer = s.outer := rfl
@[simp] theorem State.modSweep_outer (s : State) (l : LaneId) (f : Sweep → Sweep) : (s.modSweep l f).outer = s.outer := rfl
@[simp] theorem State.setVisit_outer (s : State) (v : VisitIx) (x : Option Visit) : (s.setVisit v x).outer = s.outer := rfl
@[simp] theorem State.modVisit_outer (s : State) (v : VisitIx) (f : Visit → Visit) : (s.modVisit v f).outer = s.outer := rfl
@[simp] theorem State.addReason_outer (s : State) (v : VisitIx) (r : Reason) : (s.addReason v r).outer = s.outer := rfl
@[simp] theorem State.modEntry_outer (s : State) (v : VisitIx) (p : Position) (f : Carried → Carried) : (s.modEntry v p f).outer = s.outer := rfl
@[simp] theorem State.setWindow_outer (s : State) (i : Nat) (w : Option Window) : (s.setWindow i w).outer = s.outer := rfl
@[simp] theorem State.modUsed_outer (s : State) (i : Nat) (f : Nat → Nat) : (s.modUsed i f).outer = s.outer := rfl
@[simp] theorem State.modFault_outer (s : State) (p : PortId) (f : FaultRecord → FaultRecord) : (s.modFault p f).outer = s.outer := rfl

@[simp] theorem raiseEvent_outer (k : EventKind) (src : PortId) (s : State) : (raiseEvent k src s).outer = s.outer := by
  unfold raiseEvent
  try dsimp only
  repeat' split
  all_goals rfl

@[simp] theorem clearEvent_outer (k : EventKind) (src : PortId) (s : State) : (clearEvent k src s).outer = s.outer := by
  unfold clearEvent
  try dsimp only
  repeat' split
  all_goals rfl

@[simp] theorem setAuthNotice_outer (word mask : BitVec 16) (s : State) : (setAuthNotice word mask s).outer = s.outer := by
  unfold setAuthNotice
  try dsimp only
  repeat' split
  all_goals rfl

@[simp] theorem setTermNotice_outer (word mask : BitVec 16) (s : State) : (setTermNotice word mask s).outer = s.outer := by
  unfold setTermNotice
  try dsimp only
  repeat' split
  all_goals try dsimp only
  all_goals first | (simp only [raiseEvent_outer]; done) | (simp only [raiseEvent_outer]; rfl) | rfl

@[simp] theorem raiseAuthority_outer (flag : Nat) (s : State) : (raiseAuthority flag s).outer = s.outer := by
  unfold raiseAuthority
  try dsimp only
  repeat' split
  all_goals try dsimp only
  all_goals first | (simp only [setAuthNotice_outer]; done) | (simp only [setAuthNotice_outer]; rfl) | rfl

@[simp] theorem noteFault_outer (p : PortId) (k : FaultKind) (frame : List Byte) (s : State) : (noteFault p k frame s).outer = s.outer := by
  unfold noteFault
  try dsimp only
  repeat' split
  all_goals try dsimp only
  all_goals first | (simp only [raiseEvent_outer, State.modFault_outer]; done) | (simp only [raiseEvent_outer, State.modFault_outer]; rfl) | rfl

@[simp] theorem produceShow_outer (l : LaneId) (w : Show) (s : State) : (produceShow l w s).outer = s.outer := by
  unfold produceShow
  try dsimp only
  repeat' split
  all_goals try dsimp only
  all_goals first | (simp only [State.modLane_outer]; done) | (simp only [State.modLane_outer]; rfl) | rfl

@[simp] theorem raiseBarrier_outer (l : LaneId) (s : State) : (raiseBarrier l s).outer = s.outer := by
  unfold raiseBarrier
  try dsimp only
  repeat' split
  all_goals try dsimp only
  all_goals first | (simp only [State.modLane_outer]; done) | (simp only [State.modLane_outer]; rfl) | rfl

@[simp] theorem lowerBarrier_outer (l : LaneId) (s : State) : (lowerBarrier l s).outer = s.outer := by
  unfold lowerBarrier
  try dsimp only
  repeat' split
  all_goals try dsimp only
  all_goals first | (simp only [State.modLane_outer]; done) | (simp only [State.modLane_outer]; rfl) | rfl

@[simp] theorem produceSweep_outer (l : LaneId) (w : SweepFrame) (s : State) : (produceSweep l w s).outer = s.outer := by
  unfold produceSweep
  try dsimp only
  repeat' split
  all_goals try dsimp only
  all_goals first | (simp only [State.modPort_outer]; done) | (simp only [State.modPort_outer]; rfl) | rfl

@[simp] theorem produceReread_outer (l : LaneId) (units : BitVec 8) (s : State) : (produceReread l units s).outer = s.outer := by
  unfold produceReread
  try dsimp only
  repeat' split
  all_goals try dsimp only
  all_goals first | (simp only [State.modPort_outer]; done) | (simp only [State.modPort_outer]; rfl) | rfl

@[simp] theorem produceWake_outer (l : LaneId) (s : State) : (produceWake l s).outer = s.outer := by
  unfold produceWake
  try dsimp only
  repeat' split
  all_goals try dsimp only
  all_goals first | (simp only [State.modPort_outer]; done) | (simp only [State.modPort_outer]; rfl) | rfl

@[simp] theorem waitText_outer (l : LaneId) (s : State) : (waitText l s).outer = s.outer := by
  unfold waitText
  try dsimp only
  repeat' split
  all_goals try dsimp only
  all_goals first | (simp only [produceShow_outer]; done) | (simp only [produceShow_outer]; rfl) | rfl

@[simp] theorem setPendingFlag_outer (l : LaneId) (b : Bool) (s : State) : (setPendingFlag l b s).outer = s.outer := by
  unfold setPendingFlag
  try dsimp only
  repeat' split
  all_goals try dsimp only
  all_goals first | (simp only [State.modLcu_outer]; done) | (simp only [State.modLcu_outer]; rfl) | rfl

@[simp] theorem showDirection_outer (l : LaneId) (s : State) : (showDirection l s).outer = s.outer := by
  unfold showDirection
  try dsimp only
  repeat' split
  all_goals try dsimp only
  all_goals first | (simp only [produceShow_outer, raiseBarrier_outer, setPendingFlag_outer, State.modVisit_outer]; done) | (simp only [produceShow_outer, raiseBarrier_outer, setPendingFlag_outer, State.modVisit_outer]; rfl) | rfl

@[simp] theorem makePending_outer (l : LaneId) (s : State) : (makePending l s).outer = s.outer := by
  unfold makePending
  try dsimp only
  repeat' split
  all_goals try dsimp only
  all_goals first | (simp only [setPendingFlag_outer, waitText_outer]; done) | (simp only [setPendingFlag_outer, waitText_outer]; rfl) | rfl

@[simp] theorem appendTrail_outer (c : TrailCause) (vd : Verdict) (x : Visit) (s : State) : (appendTrail c vd x s).outer = s.outer := by
  unfold appendTrail
  try dsimp only
  repeat' split
  all_goals rfl

@[simp] theorem appendBound_outer (c : TrailCause) (vd : Verdict) (l : LaneId) (x : Visit) (s : State) : (appendBound c vd l x s).outer = s.outer := by
  unfold appendBound
  try dsimp only
  repeat' split
  all_goals try dsimp only
  all_goals first | (simp only [appendTrail_outer, State.modLane_outer]; done) | (simp only [appendTrail_outer, State.modLane_outer]; rfl) | rfl

@[simp] theorem handMark_outer (l : LaneId) (m : TrailMark) (s : State) : (handMark l m s).outer = s.outer := by
  unfold handMark
  try dsimp only
  repeat' split
  all_goals try dsimp only
  all_goals first | (simp only [State.modLane_outer]; done) | (simp only [State.modLane_outer]; rfl) | rfl

@[simp] theorem reqWriteDirection_outer (i : Nat) (e : Direction) (s : State) : (reqWriteDirection i e s).2.outer = s.outer := by
  unfold reqWriteDirection applied refusedWith
  try dsimp only
  repeat' split
  all_goals rfl

@[simp] theorem reqClearDirection_outer (i : Nat) (s : State) : (reqClearDirection i s).2.outer = s.outer := by
  unfold reqClearDirection applied refusedWith
  try dsimp only
  repeat' split
  all_goals rfl

@[simp] theorem reqReadDirection_outer (i : Nat) (s : State) : (reqReadDirection i s).2.outer = s.outer := by
  unfold reqReadDirection applied refusedWith
  try dsimp only
  repeat' split
  all_goals rfl

@[simp] theorem reqWriteMessage_outer (i : Nat) (items : Text) (s : State) : (reqWriteMessage i items s).2.outer = s.outer := by
  unfold reqWriteMessage applied refusedWith
  try dsimp only
  repeat' split
  all_goals rfl

@[simp] theorem reqReadMessage_outer (i : Nat) (s : State) : (reqReadMessage i s).2.outer = s.outer := by
  unfold reqReadMessage applied refusedWith
  try dsimp only
  repeat' split
  all_goals rfl

@[simp] theorem reqTrailFreeze_outer (s : State) : (reqTrailFreeze s).2.outer = s.outer := by
  unfold reqTrailFreeze applied
  try dsimp only
  repeat' split
  all_goals rfl

@[simp] theorem reqTrailRead_outer (s : State) : (reqTrailRead s).2.outer = s.outer := by
  unfold reqTrailRead applied refusedWith
  try dsimp only
  repeat' split
  all_goals rfl

@[simp] theorem reqTrailThaw_outer (s : State) : (reqTrailThaw s).2.outer = s.outer := by
  unfold reqTrailThaw applied
  try dsimp only
  repeat' split
  all_goals rfl

@[simp] theorem signAtHold_outer (l : LaneId) (s : State) : (signAtHold l s).outer = s.outer := by
  unfold signAtHold
  try dsimp only
  repeat' split
  all_goals try dsimp only
  all_goals first | (simp only [waitText_outer, State.modLcu_outer]; done) | (simp only [waitText_outer, State.modLcu_outer]; rfl) | rfl

@[simp] theorem leaveParked_outer (l : LaneId) (s : State) : (leaveParked l s).outer = s.outer := by
  unfold leaveParked
  try dsimp only
  repeat' split
  all_goals rfl

@[simp] theorem enterHold_outer (l : LaneId) (s : State) : (enterHold l s).outer = s.outer := by
  unfold enterHold
  try dsimp only
  repeat' split
  all_goals try dsimp only
  all_goals first | (simp only [leaveParked_outer, raiseEvent_outer, signAtHold_outer]; done) | (simp only [leaveParked_outer, raiseEvent_outer, signAtHold_outer]; rfl) | rfl

@[simp] theorem putCause_outer (l : LaneId) (c : HoldCause) (s : State) : (putCause l c s).outer = s.outer := by
  unfold putCause
  try dsimp only
  repeat' split
  all_goals try dsimp only
  all_goals first | (simp only [State.modLcu_outer, State.modVisit_outer]; done) | (simp only [State.modLcu_outer, State.modVisit_outer]; rfl) | rfl

@[simp] theorem addCause_outer (l : LaneId) (c : HoldCause) (s : State) : (addCause l c s).outer = s.outer := by
  unfold addCause
  try dsimp only
  repeat' split
  all_goals try dsimp only
  all_goals first | (simp only [enterHold_outer, putCause_outer]; done) | (simp only [enterHold_outer, putCause_outer]; rfl) | rfl

@[simp] theorem recordLane_outer (l : LaneId) (k : FaultKind) (frame : List Byte) (s : State) : (recordLane l k frame s).outer = s.outer := by
  unfold recordLane
  try dsimp only
  repeat' split
  all_goals try dsimp only
  all_goals first | (simp only [addCause_outer, noteFault_outer]; done) | (simp only [addCause_outer, noteFault_outer]; rfl) | rfl

@[simp] theorem recordLink_outer (k : Link) (kind : FaultKind) (frame : List Byte) (s : State) : (recordLink k kind frame s).outer = s.outer := by
  unfold recordLink
  try dsimp only
  repeat' split
  all_goals try dsimp only
  all_goals first | (simp only [noteFault_outer]; done) | (simp only [noteFault_outer]; rfl) | rfl

@[simp] theorem enterClosed_outer (l : LaneId) (s : State) : (enterClosed l s).outer = s.outer := by
  unfold enterClosed
  try dsimp only
  repeat' split
  all_goals try dsimp only
  all_goals first | (simp only [leaveParked_outer, lowerBarrier_outer, produceShow_outer, raiseEvent_outer, State.modLane_outer, State.modPort_outer]; done) | (simp only [leaveParked_outer, lowerBarrier_outer, produceShow_outer, raiseEvent_outer, State.modLane_outer, State.modPort_outer]; rfl) | rfl

@[simp] theorem warmTest_outer (l : LaneId) (s : State) : (warmTest l s).outer = s.outer := by
  unfold warmTest
  try dsimp only
  repeat' split
  all_goals try dsimp only
  all_goals first | (simp only [raiseEvent_outer, State.modLcu_outer]; done) | (simp only [raiseEvent_outer, State.modLcu_outer]; rfl) | rfl

@[simp] theorem addReady_outer (l : LaneId) (k : UnitKind) (s : State) : (addReady l k s).outer = s.outer := by
  unfold addReady
  try dsimp only
  repeat' split
  all_goals try dsimp only
  all_goals first | (simp only [warmTest_outer, State.modLcu_outer]; done) | (simp only [warmTest_outer, State.modLcu_outer]; rfl) | rfl

@[simp] theorem auditStep_outer (l : LaneId) (s : State) : (auditStep l s).outer = s.outer := by
  unfold auditStep
  try dsimp only
  repeat' split
  all_goals try dsimp only
  all_goals first | (simp only [addCause_outer, State.modLcu_outer]; done) | (simp only [addCause_outer, State.modLcu_outer]; rfl) | rfl

@[simp] theorem popHead_outer (l : LaneId) (s : State) : (popHead l s).outer = s.outer := by
  unfold popHead
  try dsimp only
  repeat' split
  all_goals try dsimp only
  all_goals first | (simp only [State.modPort_outer]; done) | (simp only [State.modPort_outer]; rfl) | rfl

@[simp] theorem grant_outer (l : LaneId) (v : VisitIx) (load : LoadClass) (s : State) : (grant l v load s).outer = s.outer := by
  unfold grant
  try dsimp only
  repeat' split
  all_goals try dsimp only
  all_goals first | (simp only [popHead_outer, State.modLcu_outer, State.setVisit_outer]; done) | (simp only [popHead_outer, State.modLcu_outer, State.setVisit_outer]; rfl) | rfl

@[simp] theorem park_outer (l : LaneId) (s : State) : (park l s).outer = s.outer := by
  unfold park
  try dsimp only
  repeat' split
  all_goals try dsimp only
  all_goals first | (simp only [raiseEvent_outer, waitText_outer]; done) | (simp only [raiseEvent_outer, waitText_outer]; rfl) | rfl

@[simp] theorem grantParked_outer (v : VisitIx) (s : State) : (grantParked v s).outer = s.outer := by
  unfold grantParked
  try dsimp only
  repeat' split
  all_goals try dsimp only
  all_goals first | (simp only [grant_outer]; done) | (simp only [grant_outer]; rfl) | rfl

@[simp] theorem takeBay_outer (v : VisitIx) (b : Nat) (s : State) : (takeBay v b s).outer = s.outer := by
  unfold takeBay
  try dsimp only
  repeat' split
  all_goals try dsimp only
  all_goals first | (simp only [State.modVisit_outer]; done) | (simp only [State.modVisit_outer]; rfl) | rfl

@[simp] theorem setVisitState_outer (v : VisitIx) (st : VisitState) (s : State) : (setVisitState v st s).outer = s.outer := by
  unfold setVisitState
  try dsimp only
  repeat' split
  all_goals try dsimp only
  all_goals first | (simp only [State.modVisit_outer]; done) | (simp only [State.modVisit_outer]; rfl) | rfl

@[simp] theorem joinBayWait_outer (l : LaneId) (v : VisitIx) (s : State) : (joinBayWait l v s).outer = s.outer := by
  unfold joinBayWait
  try dsimp only
  repeat' split
  all_goals try dsimp only
  all_goals first | (simp only [raiseEvent_outer, setVisitState_outer, waitText_outer]; done) | (simp only [raiseEvent_outer, setVisitState_outer, waitText_outer]; rfl) | rfl

@[simp] theorem enterDirected_outer (l : LaneId) (v : VisitIx) (s : State) : (enterDirected l v s).outer = s.outer := by
  unfold enterDirected
  try dsimp only
  repeat' split
  all_goals try dsimp only
  all_goals first | (simp only [makePending_outer, setVisitState_outer, showDirection_outer]; done) | (simp only [makePending_outer, setVisitState_outer, showDirection_outer]; rfl) | rfl

/-- Granting bays keeps the outer parts. -/
@[simp] theorem grantBays_outer (n : Nat) (s : State) : (grantBays n s).outer = s.outer := by
  induction n generalizing s with
  | zero => rfl
  | succ n ih =>
    unfold grantBays
    split
    · dsimp only
      split
      · rw [ih, enterDirected_outer, takeBay_outer]; rfl
      · rw [ih, takeBay_outer]; rfl
    · rfl

@[simp] theorem grantFreeBays_outer (s : State) : (grantFreeBays s).outer = s.outer := by
  unfold grantFreeBays
  try dsimp only
  repeat' split
  all_goals try dsimp only
  all_goals first | (simp only [grantBays_outer]; done) | (simp only [grantBays_outer]; rfl) | rfl

@[simp] theorem claimBay_outer (v : VisitIx) (s : State) : (claimBay v s).2.outer = s.outer := by
  unfold claimBay
  try dsimp only
  repeat' split
  all_goals try dsimp only
  all_goals first | (simp only [takeBay_outer]; done) | (simp only [takeBay_outer]; rfl) | rfl

@[simp] theorem releaseBay_outer (v : VisitIx) (s : State) : (releaseBay v s).outer = s.outer := by
  unfold releaseBay
  try dsimp only
  repeat' split
  all_goals try dsimp only
  all_goals first | (simp only [grantFreeBays_outer, State.modVisit_outer]; done) | (simp only [grantFreeBays_outer, State.modVisit_outer]; rfl) | rfl

@[simp] theorem leaveBayWait_outer (v : VisitIx) (s : State) : (leaveBayWait v s).outer = s.outer := by
  unfold leaveBayWait
  try dsimp only
  repeat' split
  all_goals rfl

@[simp] theorem modBookings_outer (f : Booking → Booking) (ixs : List Nat) (s : State) : (modBookings f ixs s).outer = s.outer := by
  unfold modBookings
  try dsimp only
  repeat' split
  all_goals rfl

@[simp] theorem advanceBookings_outer (x : Visit) (s : State) : (advanceBookings x s).outer = s.outer := by
  unfold advanceBookings
  try dsimp only
  repeat' split
  all_goals try dsimp only
  all_goals first | (simp only [modBookings_outer]; done) | (simp only [modBookings_outer]; rfl) | rfl

@[simp] theorem restoreBookings_outer (x : Visit) (s : State) : (restoreBookings x s).outer = s.outer := by
  unfold restoreBookings
  try dsimp only
  repeat' split
  all_goals try dsimp only
  all_goals first | (simp only [modBookings_outer]; done) | (simp only [modBookings_outer]; rfl) | rfl

@[simp] theorem releasePins_outer (x : Visit) (s : State) : (releasePins x s).outer = s.outer := by
  unfold releasePins
  try dsimp only
  repeat' split
  all_goals rfl

@[simp] theorem pushRecord_outer (r : GateRecord) (s : State) : (pushRecord r s).outer = s.outer := by
  unfold pushRecord
  try dsimp only
  repeat' split
  all_goals rfl

@[simp] theorem freeVisit_outer (v : VisitIx) (s : State) : (freeVisit v s).outer = s.outer := by
  unfold freeVisit
  try dsimp only
  repeat' split
  all_goals try dsimp only
  all_goals first | (simp only [grantParked_outer, State.setVisit_outer]; done) | (simp only [grantParked_outer, State.setVisit_outer]; rfl) | rfl

@[simp] theorem closeVisit_outer (v : VisitIx) (o : CloseOutcome) (s : State) : (closeVisit v o s).outer = s.outer := by
  unfold closeVisit
  try dsimp only
  repeat' split
  all_goals try dsimp only
  all_goals first | (simp only [freeVisit_outer, pushRecord_outer, State.modVisit_outer]; done) | (simp only [freeVisit_outer, pushRecord_outer, State.modVisit_outer]; rfl) | rfl

@[simp] theorem placeClosing_outer (s : State) : (placeClosing s).outer = s.outer := by
  unfold placeClosing
  try dsimp only
  repeat' split
  all_goals try dsimp only
  all_goals first | (simp only [freeVisit_outer, pushRecord_outer]; done) | (simp only [freeVisit_outer, pushRecord_outer]; rfl) | rfl

@[simp] theorem resolvedNotice_outer (x : Visit) (s : State) : (resolvedNotice x s).outer = s.outer := by
  unfold resolvedNotice
  try dsimp only
  repeat' split
  all_goals try dsimp only
  all_goals first | (simp only [raiseAuthority_outer]; done) | (simp only [raiseAuthority_outer]; rfl) | rfl

@[simp] theorem releaseLane_outer (l : LaneId) (v : VisitIx) (s : State) : (releaseLane l v s).outer = s.outer := by
  unfold releaseLane
  try dsimp only
  repeat' split
  all_goals try dsimp only
  all_goals first | (simp only [State.modLane_outer, State.modVisit_outer]; done) | (simp only [State.modLane_outer, State.modVisit_outer]; rfl) | rfl

@[simp] theorem drainRelease_outer (l : LaneId) (s : State) : (drainRelease l s).outer = s.outer := by
  unfold drainRelease
  try dsimp only
  repeat' split
  all_goals try dsimp only
  all_goals first | (simp only [enterClosed_outer, raiseEvent_outer, State.modLcu_outer]; done) | (simp only [enterClosed_outer, raiseEvent_outer, State.modLcu_outer]; rfl) | rfl

@[simp] theorem gateReasons_outer (v : VisitIx) (threshold : Nat) (e : Carried) (s : State) : (gateReasons v threshold e s).outer = s.outer := by
  unfold gateReasons
  try dsimp only
  repeat' split
  all_goals try dsimp only
  all_goals first | (simp only [State.addReason_outer]; done) | (simp only [State.addReason_outer]; rfl) | rfl

@[simp] theorem matchEntry_outer (v : VisitIx) (x : Visit) (e : Carried) (s : State) : (matchEntry v x e s).outer = s.outer := by
  unfold matchEntry
  try dsimp only
  repeat' split
  all_goals try dsimp only
  all_goals first | (simp only [modBookings_outer, State.addReason_outer, State.modEntry_outer]; done) | (simp only [modBookings_outer, State.addReason_outer, State.modEntry_outer]; rfl) | rfl

@[simp] theorem matchCarried_outer (v : VisitIx) (threshold : Nat) (x : Visit) (s : State) : (matchCarried v threshold x s).outer = s.outer := by
  unfold matchCarried
  dsimp only
  rw [outer_foldl _ (fun s e => matchEntry_outer v x e s), outer_foldl _ (fun s e => gateReasons_outer v threshold e s)]

@[simp] theorem matchCard_outer (v : VisitIx) (x : Visit) (s : State) : (matchCard v x s).outer = s.outer := by
  unfold matchCard
  try dsimp only
  repeat' split
  all_goals try dsimp only
  all_goals first | (simp only [modBookings_outer, State.addReason_outer, State.modVisit_outer]; done) | (simp only [modBookings_outer, State.addReason_outer, State.modVisit_outer]; rfl) | rfl

@[simp] theorem checkPlate_outer (v : VisitIx) (threshold : Nat) (x : Visit) (s : State) : (checkPlate v threshold x s).outer = s.outer := by
  unfold checkPlate
  try dsimp only
  repeat' split
  all_goals try dsimp only
  all_goals first | (simp only [State.addReason_outer]; done) | (simp only [State.addReason_outer]; rfl) | rfl

@[simp] theorem checkCard_outer (v : VisitIx) (x : Visit) (s : State) : (checkCard v x s).outer = s.outer := by
  unfold checkCard
  try dsimp only
  repeat' split
  all_goals try dsimp only
  all_goals first | (simp only [State.addReason_outer]; done) | (simp only [State.addReason_outer]; rfl) | rfl

@[simp] theorem reslot_outer (v : VisitIx) (i : Nat) (b : Booking) (p : Option Position) (s : State) : (reslot v i b p s).outer = s.outer := by
  unfold reslot
  try dsimp only
  repeat' split
  all_goals try dsimp only
  all_goals first | (simp only [modBookings_outer, State.addReason_outer, State.modEntry_outer, State.modUsed_outer]; done) | (simp only [modBookings_outer, State.addReason_outer, State.modEntry_outer, State.modUsed_outer]; rfl) | rfl

@[simp] theorem judgeWindow_outer (v : VisitIx) (a : Nat) (i : Nat) (p : Option Position) (s : State) : (judgeWindow v a i p s).outer = s.outer := by
  unfold judgeWindow
  try dsimp only
  repeat' split
  all_goals try dsimp only
  all_goals first | (simp only [reslot_outer, State.addReason_outer]; done) | (simp only [reslot_outer, State.addReason_outer]; rfl) | rfl

@[simp] theorem checkWindows_outer (v : VisitIx) (x : Visit) (s : State) : (checkWindows v x s).outer = s.outer := by
  unfold checkWindows
  split
  · rfl
  · split
    · exact outer_foldl _ (fun s (p : Nat × Option Position) => judgeWindow_outer v _ p.1 p.2 s) _ _
    · split <;> rfl

@[simp] theorem admissionLookup_outer (l : LaneId) (v : VisitIx) (s : State) : (admissionLookup l v s).outer = s.outer := by
  unfold admissionLookup
  dsimp only
  rw [onVisit_outer _ _ _ (fun x t => checkWindows_outer v x t), onVisit_outer _ _ _ (fun x t => checkCard_outer v x t),
    onVisit_outer _ _ _ (fun x t => checkPlate_outer v _ x t), onVisit_outer _ _ _ (fun x t => matchCard_outer v x t),
    onVisit_outer _ _ _ (fun x t => matchCarried_outer v _ x t)]

@[simp] theorem reqLoadBooking_outer (f : BookingLoad) (s : State) : (reqLoadBooking f s).2.outer = s.outer := by
  unfold reqLoadBooking applied refusedWith
  try dsimp only
  repeat' split
  all_goals try dsimp only
  all_goals first | (simp only [State.modUsed_outer]; done) | (simp only [State.modUsed_outer]; rfl) | rfl

@[simp] theorem reqCancelBooking_outer (r : Nat) (s : State) : (reqCancelBooking r s).2.outer = s.outer := by
  unfold reqCancelBooking applied refusedWith
  try dsimp only
  repeat' split
  all_goals try dsimp only
  all_goals first | (simp only [modBookings_outer, State.modUsed_outer]; done) | (simp only [modBookings_outer, State.modUsed_outer]; rfl) | rfl

@[simp] theorem reqPurgeBooking_outer (r : Nat) (s : State) : (reqPurgeBooking r s).2.outer = s.outer := by
  unfold reqPurgeBooking applied refusedWith
  try dsimp only
  repeat' split
  all_goals try dsimp only
  all_goals first | (simp only [State.modUsed_outer]; done) | (simp only [State.modUsed_outer]; rfl) | rfl

@[simp] theorem reqReadBooking_outer (sel : BookingSel) (s : State) : (reqReadBooking sel s).2.outer = s.outer := by
  unfold reqReadBooking applied refusedWith
  try dsimp only
  repeat' split
  all_goals rfl

@[simp] theorem reqFindBooking_outer (c : Text) (k : BookingKind) (s : State) : (reqFindBooking c k s).2.outer = s.outer := by
  unfold reqFindBooking applied refusedWith
  try dsimp only
  repeat' split
  all_goals rfl

@[simp] theorem reqLoadWindow_outer (i start length capacity : Nat) (s : State) : (reqLoadWindow i start length capacity s).2.outer = s.outer := by
  unfold reqLoadWindow applied refusedWith
  try dsimp only
  repeat' split
  all_goals try dsimp only
  all_goals first | (simp only [State.setWindow_outer]; done) | (simp only [State.setWindow_outer]; rfl) | rfl

@[simp] theorem reqRemoveWindow_outer (i : Nat) (s : State) : (reqRemoveWindow i s).2.outer = s.outer := by
  unfold reqRemoveWindow applied refusedWith
  try dsimp only
  repeat' split
  all_goals try dsimp only
  all_goals first | (simp only [State.setWindow_outer]; done) | (simp only [State.setWindow_outer]; rfl) | rfl

@[simp] theorem reqReadWindow_outer (i : Nat) (s : State) : (reqReadWindow i s).2.outer = s.outer := by
  unfold reqReadWindow applied refusedWith
  try dsimp only
  repeat' split
  all_goals rfl

@[simp] theorem reqSetClock_outer (minute second : Nat) (s : State) : (reqSetClock minute second s).2.outer = s.outer := by
  unfold reqSetClock applied refusedWith
  try dsimp only
  repeat' split
  all_goals rfl

@[simp] theorem reqReadClock_outer (s : State) : (reqReadClock s).2.outer = s.outer := by
  unfold reqReadClock applied
  try dsimp only
  repeat' split
  all_goals rfl

@[simp] theorem reqSetSlack_outer (early late : Nat) (s : State) : (reqSetSlack early late s).2.outer = s.outer := by
  unfold reqSetSlack applied refusedWith
  try dsimp only
  repeat' split
  all_goals rfl

@[simp] theorem setClosure_outer (v : VisitIx) (p : Position) (o : ClosureOutcome) (s : State) : (setClosure v p o s).outer = s.outer := by
  unfold setClosure
  try dsimp only
  repeat' split
  all_goals try dsimp only
  all_goals first | (simp only [State.addReason_outer, State.modEntry_outer]; done) | (simp only [State.addReason_outer, State.modEntry_outer]; rfl) | rfl

@[simp] theorem touchRecency_outer (i : Nat) (s : State) : (touchRecency i s).outer = s.outer := by
  unfold touchRecency
  try dsimp only
  repeat' split
  all_goals rfl

@[simp] theorem takePin_outer (v : VisitIx) (p : Position) (i : Nat) (s : State) : (takePin v p i s).outer = s.outer := by
  unfold takePin
  try dsimp only
  repeat' split
  all_goals try dsimp only
  all_goals first | (simp only [State.modEntry_outer]; done) | (simp only [State.modEntry_outer]; rfl) | rfl

@[simp] theorem startClosure_outer (l : LaneId) (v : VisitIx) (e : Carried) (s : State) : (startClosure l v e s).outer = s.outer := by
  unfold startClosure
  try dsimp only
  repeat' split
  all_goals try dsimp only
  all_goals first | (simp only [raiseEvent_outer, setClosure_outer, takePin_outer, touchRecency_outer]; done) | (simp only [raiseEvent_outer, setClosure_outer, takePin_outer, touchRecency_outer]; rfl) | rfl

@[simp] theorem startClosures_outer (l : LaneId) (v : VisitIx) (s : State) : (startClosures l v s).outer = s.outer := by
  unfold startClosures
  exact onVisit_outer _ _ _ fun x t => outer_foldl _ (fun s e => startClosure_outer l v e s) _ _

@[simp] theorem evaluateRead_outer (v : VisitIx) (e : Carried) (r : ClosureRead) (s : State) : (evaluateRead v e r s).outer = s.outer := by
  unfold evaluateRead
  try dsimp only
  repeat' split
  all_goals try dsimp only
  all_goals first | (simp only [setClosure_outer]; done) | (simp only [setClosure_outer]; rfl) | rfl

@[simp] theorem expireClosure_outer (v : VisitIx) (e : Carried) (s : State) : (expireClosure v e s).outer = s.outer := by
  unfold expireClosure
  try dsimp only
  repeat' split
  all_goals try dsimp only
  all_goals first | (simp only [setClosure_outer]; done) | (simp only [setClosure_outer]; rfl) | rfl

@[simp] theorem reqRemoveClosure_outer (c : Text) (s : State) : (reqRemoveClosure c s).2.outer = s.outer := by
  unfold reqRemoveClosure applied refusedWith
  try dsimp only
  repeat' split
  all_goals rfl

@[simp] theorem reqSetRetain_outer (c : Text) (b : Bool) (s : State) : (reqSetRetain c b s).2.outer = s.outer := by
  unfold reqSetRetain applied refusedWith
  try dsimp only
  repeat' split
  all_goals rfl

@[simp] theorem reqReadClosure_outer (sel : ClosureSel) (s : State) : (reqReadClosure sel s).2.outer = s.outer := by
  unfold reqReadClosure applied refusedWith
  try dsimp only
  repeat' split
  all_goals rfl

@[simp] theorem markNotSwept_outer (v : VisitIx) (s : State) : (markNotSwept v s).outer = s.outer := by
  unfold markNotSwept
  try dsimp only
  repeat' split
  all_goals try dsimp only
  all_goals first | (simp only [State.modVisit_outer]; done) | (simp only [State.modVisit_outer]; rfl) | rfl

@[simp] theorem startSweep_outer (l : LaneId) (v : VisitIx) (x : Visit) (s : State) : (startSweep l v x s).outer = s.outer := by
  unfold startSweep
  dsimp only
  split
  · rw [markNotSwept_outer]
  · rw [produceSweep_outer]; rfl

@[simp] theorem stopSweep_outer (l : LaneId) (s : State) : (stopSweep l s).outer = s.outer := by
  unfold stopSweep
  try dsimp only
  repeat' split
  all_goals try dsimp only
  all_goals first | (simp only [produceSweep_outer, State.modSweep_outer]; done) | (simp only [produceSweep_outer, State.modSweep_outer]; rfl) | rfl

@[simp] theorem settleSwept_outer (l : LaneId) (v : VisitIx) (o : DamageOutcome) (s : State) : (settleSwept l v o s).outer = s.outer := by
  unfold settleSwept
  try dsimp only
  repeat' split
  all_goals try dsimp only
  all_goals first | (simp only [State.modVisit_outer]; done) | (simp only [State.modVisit_outer]; rfl) | rfl

@[simp] theorem fireMinor_outer (v : VisitIx) (p : Position) (s : State) : (fireMinor v p s).outer = s.outer := by
  unfold fireMinor onVisit
  try dsimp only
  repeat' split
  all_goals try dsimp only
  all_goals first | (simp only [State.addReason_outer, State.modEntry_outer]; done) | (simp only [State.addReason_outer, State.modEntry_outer]; rfl) | rfl

@[simp] theorem fireSurvey_outer (v : VisitIx) (p : Position) (s : State) : (fireSurvey v p s).outer = s.outer := by
  unfold fireSurvey
  try dsimp only
  repeat' split
  all_goals try dsimp only
  all_goals first | (simp only [State.addReason_outer, State.modEntry_outer]; done) | (simp only [State.addReason_outer, State.modEntry_outer]; rfl) | rfl

@[simp] theorem fireRule_outer (l : LaneId) (v : VisitIx) (i : Fin 16) (p : Position) (a : RuleAction) (s : State) : (fireRule l v i p a s).outer = s.outer := by
  unfold fireRule
  try dsimp only
  repeat' split
  all_goals try dsimp only
  all_goals first | (simp only [addCause_outer, fireMinor_outer, fireSurvey_outer, State.modEntry_outer]; done) | (simp only [addCause_outer, fireMinor_outer, fireSurvey_outer, State.modEntry_outer]; rfl) | rfl

@[simp] theorem modStates_outer (l : LaneId) (f : MatchState → MatchState) (s : State) : (modStates l f s).outer = s.outer := by
  unfold modStates
  try dsimp only
  repeat' split
  all_goals try dsimp only
  all_goals first | (simp only [State.modSweep_outer]; done) | (simp only [State.modSweep_outer]; rfl) | rfl

@[simp] theorem judgeRule_outer (l : LaneId) (v : VisitIx) (f : Finding) (s : State) (i : Fin 16) : (judgeRule l v f s i).outer = s.outer := by
  unfold judgeRule
  try dsimp only
  repeat' split
  all_goals try dsimp only
  all_goals first | (simp only [fireRule_outer, modStates_outer]; done) | (simp only [fireRule_outer, modStates_outer]; rfl) | rfl

@[simp] theorem judgeFinding_outer (l : LaneId) (v : VisitIx) (f : Finding) (s : State) : (judgeFinding l v f s).outer = s.outer := by
  unfold judgeFinding
  exact outer_foldl _ (fun s i => judgeRule_outer l v f s i) _ _

@[simp] theorem applyFinding_outer (l : LaneId) (f : Finding) (s : State) : (applyFinding l f s).outer = s.outer := by
  unfold applyFinding
  dsimp only
  split
  · rw [judgeFinding_outer]; rfl
  · rfl

@[simp] theorem endSweep_outer (l : LaneId) (st : SweepStatus) (count : Nat) (s : State) : (endSweep l st count s).outer = s.outer := by
  unfold endSweep
  try dsimp only
  repeat' split
  all_goals try dsimp only
  all_goals first | (simp only [settleSwept_outer, State.addReason_outer, State.modSweep_outer]; done) | (simp only [settleSwept_outer, State.addReason_outer, State.modSweep_outer]; rfl) | rfl

@[simp] theorem reqWriteRule_outer (i : Nat) (r : Rule) (s : State) : (reqWriteRule i r s).2.outer = s.outer := by
  unfold reqWriteRule applied refusedWith
  try dsimp only
  repeat' split
  all_goals rfl

@[simp] theorem reqReadRule_outer (i : Nat) (s : State) : (reqReadRule i s).2.outer = s.outer := by
  unfold reqReadRule applied refusedWith
  try dsimp only
  repeat' split
  all_goals rfl

@[simp] theorem reqReadSweep_outer (n : Nat) (s : State) : (reqReadSweep n s).2.outer = s.outer := by
  unfold reqReadSweep withLane applied
  try dsimp only
  repeat' split
  all_goals rfl

@[simp] theorem writeVerdict_outer (l : LaneId) (v : VisitIx) (vd : Verdict) (s : State) : (writeVerdict l v vd s).outer = s.outer := by
  unfold writeVerdict
  try dsimp only
  repeat' split
  all_goals try dsimp only
  all_goals first | (simp only [State.modVisit_outer]; done) | (simp only [State.modVisit_outer]; rfl) | rfl

@[simp] theorem placeVisit_outer (l : LaneId) (v : VisitIx) (vd : Verdict) (s : State) : (placeVisit l v vd s).outer = s.outer := by
  unfold placeVisit
  split
  · rw [enterDirected_outer, auditStep_outer]
  · have h := claimBay_outer v s
    split
    · next t e => rw [enterDirected_outer, ← h, e]
    · next t e => rw [joinBayWait_outer, ← h, e]
  · rw [enterDirected_outer]

@[simp] theorem composeVerdict_outer (l : LaneId) (v : VisitIx) (s : State) : (composeVerdict l v s).outer = s.outer := by
  unfold composeVerdict
  exact onVisit_outer _ _ _ fun x t => by simp only [placeVisit_outer, appendBound_outer, writeVerdict_outer]

@[simp] theorem stopT0_outer (l : LaneId) (s : State) : (stopT0 l s).outer = s.outer := by
  unfold stopT0
  try dsimp only
  repeat' split
  all_goals try dsimp only
  all_goals first | (simp only [State.modLcu_outer]; done) | (simp only [State.modLcu_outer]; rfl) | rfl

@[simp] theorem startT0_outer (l : LaneId) (k : WindowKind) (s : State) : (startT0 l k s).outer = s.outer := by
  unfold startT0
  try dsimp only
  repeat' split
  all_goals try dsimp only
  all_goals first | (simp only [State.modLcu_outer]; done) | (simp only [State.modLcu_outer]; rfl) | rfl

@[simp] theorem completionTest_outer (l : LaneId) (v : VisitIx) (s : State) : (completionTest l v s).outer = s.outer := by
  unfold completionTest
  exact onVisit_outer _ _ _ fun x t => by
    split
    · simp only [composeVerdict_outer, stopT0_outer]
    · rfl

@[simp] theorem testBound_outer (l : LaneId) (s : State) : (testBound l s).outer = s.outer := by
  unfold testBound
  try dsimp only
  repeat' split
  all_goals try dsimp only
  all_goals first | (simp only [completionTest_outer]; done) | (simp only [completionTest_outer]; rfl) | rfl

@[simp] theorem holdListCheck_outer (v : VisitIx) (x : Visit) (s : State) : (holdListCheck v x s).outer = s.outer := by
  unfold holdListCheck
  try dsimp only
  repeat' split
  all_goals try dsimp only
  all_goals first | (simp only [raiseAuthority_outer, State.addReason_outer, State.modVisit_outer]; done) | (simp only [raiseAuthority_outer, State.addReason_outer, State.modVisit_outer]; rfl) | rfl

@[simp] theorem enterChecking_outer (l : LaneId) (v : VisitIx) (s : State) : (enterChecking l v s).outer = s.outer := by
  unfold enterChecking
  dsimp only
  rw [completionTest_outer, startT0_outer, onVisit_outer _ _ _ (fun x t => startSweep_outer l v x t), startClosures_outer,
    onVisit_outer _ _ _ (fun x t => holdListCheck_outer v x t), admissionLookup_outer, setVisitState_outer]

@[simp] theorem identityTest_outer (l : LaneId) (v : VisitIx) (s : State) : (identityTest l v s).outer = s.outer := by
  unfold identityTest
  exact onVisit_outer _ _ _ fun x t => by
    split
    · rw [enterChecking_outer]
    · rfl

@[simp] theorem readWindowRunsOut_outer (l : LaneId) (v : VisitIx) (x : Visit) (s : State) : (readWindowRunsOut l v x s).outer = s.outer := by
  unfold readWindowRunsOut
  try dsimp only
  repeat' split
  all_goals try dsimp only
  all_goals first | (simp only [enterChecking_outer, produceReread_outer, startT0_outer, State.addReason_outer, State.modVisit_outer]; done) | (simp only [enterChecking_outer, produceReread_outer, startT0_outer, State.addReason_outer, State.modVisit_outer]; rfl) | rfl

@[simp] theorem expireRead_outer (l : LaneId) (s : State) : (expireRead l s).outer = s.outer := by
  unfold expireRead
  try dsimp only
  repeat' split
  all_goals try dsimp only
  all_goals first | (simp only [readWindowRunsOut_outer, stopT0_outer]; done) | (simp only [readWindowRunsOut_outer, stopT0_outer]; rfl) | rfl

@[simp] theorem expireSweep_outer (l : LaneId) (v : VisitIx) (s : State) : (expireSweep l v s).outer = s.outer := by
  unfold expireSweep
  try dsimp only
  repeat' split
  all_goals try dsimp only
  all_goals first | (simp only [settleSwept_outer, stopSweep_outer, State.addReason_outer]; done) | (simp only [settleSwept_outer, stopSweep_outer, State.addReason_outer]; rfl) | rfl

@[simp] theorem expireCheck_outer (l : LaneId) (s : State) : (expireCheck l s).outer = s.outer := by
  unfold expireCheck
  split
  · dsimp only
    split
    · split
      · rw [composeVerdict_outer, expireSweep_outer, outer_foldl _ (fun s e => expireClosure_outer _ e s), stopT0_outer]
      · rw [stopT0_outer]
    · rw [stopT0_outer]
  · rfl

@[simp] theorem answerEntry_outer (v : VisitIx) (i : Nat) (seals : List Text) (e : Carried) (s : State) : (answerEntry v i seals e s).outer = s.outer := by
  unfold answerEntry
  try dsimp only
  repeat' split
  all_goals try dsimp only
  all_goals first | (simp only [setClosure_outer, takePin_outer]; done) | (simp only [setClosure_outer, takePin_outer]; rfl) | rfl

@[simp] theorem answerVisit_outer (c : Text) (i : Nat) (seals : List Text) (s : State) (v : VisitIx) : (answerVisit c i seals s v).outer = s.outer := by
  unfold answerVisit
  split
  · split
    · rfl
    · dsimp only
      split
      · rw [completionTest_outer, outer_foldl _ (fun s e => answerEntry_outer v i seals e s)]
      · rw [outer_foldl _ (fun s e => answerEntry_outer v i seals e s)]
  · rfl

@[simp] theorem addClosure_outer (c : Text) (seals : List Text) (i : Nat) (s : State) : (addClosure c seals i s).outer = s.outer := by
  unfold addClosure
  dsimp only
  rw [outer_foldl _ (fun s v => answerVisit_outer c i seals s v)]
  rfl

@[simp] theorem reqLoadClosure_outer (c : Text) (seals : List Text) (s : State) : (reqLoadClosure c seals s).2.outer = s.outer := by
  unfold reqLoadClosure applied refusedWith
  try dsimp only
  repeat' split
  all_goals try dsimp only
  all_goals first | (simp only [addClosure_outer, touchRecency_outer]; done) | (simp only [addClosure_outer, touchRecency_outer]; rfl) | rfl

@[simp] theorem unexpected_outer (l : LaneId) (f : LaneFrame) (s : State) : (unexpected l f s).outer = s.outer := by
  unfold unexpected
  try dsimp only
  repeat' split
  all_goals try dsimp only
  all_goals first | (simp only [popHead_outer, recordLane_outer]; done) | (simp only [popHead_outer, recordLane_outer]; rfl) | rfl

@[simp] theorem arriveApplied_outer (l : LaneId) (f : LaneFrame) (load : LoadClass) (s : State) : (arriveApplied l f load s).outer = s.outer := by
  unfold arriveApplied
  try dsimp only
  repeat' split
  all_goals try dsimp only
  all_goals first | (simp only [grant_outer, park_outer, unexpected_outer]; done) | (simp only [grant_outer, park_outer, unexpected_outer]; rfl) | rfl

/-- A read taken in IDENTIFYING keeps the outer parts where taking it does. -/
theorem inIdentifying_outer (l : LaneId) (f : LaneFrame) (k : VisitIx → Visit → State → State) (s : State)
    (h : ∀ v x t, (k v x t).outer = t.outer) : (inIdentifying l f k s).outer = s.outer := by
  unfold inIdentifying
  split
  · split
    · rw [identityTest_outer, h, popHead_outer]
    · rw [unexpected_outer]
  · rw [unexpected_outer]

@[simp] theorem plateApplied_outer (l : LaneId) (f : LaneFrame) (conf : Nat) (t : Text) (s : State) : (plateApplied l f conf t s).outer = s.outer := by
  unfold plateApplied
  exact inIdentifying_outer _ _ _ _ fun v x t => rfl

@[simp] theorem cardApplied_outer (l : LaneId) (f : LaneFrame) (t : Text) (s : State) : (cardApplied l f t s).outer = s.outer := by
  unfold cardApplied
  exact inIdentifying_outer _ _ _ _ fun v x t => rfl

@[simp] theorem takeCode_outer (l : LaneId) (v : VisitIx) (p : Position) (conf : Nat) (c : Text) (x : Visit) (s : State) : (takeCode l v p conf c x s).outer = s.outer := by
  unfold takeCode
  try dsimp only
  repeat' split
  all_goals try dsimp only
  all_goals first | (simp only [State.addReason_outer, State.modEntry_outer, State.modVisit_outer]; done) | (simp only [State.addReason_outer, State.modEntry_outer, State.modVisit_outer]; rfl) | rfl

@[simp] theorem codeApplied_outer (l : LaneId) (f : LaneFrame) (p : Position) (conf : Nat) (c : Text) (s : State) : (codeApplied l f p conf c s).outer = s.outer := by
  unfold codeApplied
  exact inIdentifying_outer _ _ _ _ fun v x t => takeCode_outer l v p conf c x t

@[simp] theorem keepRead_outer (v : VisitIx) (p : Position) (r : ClosureRead) (s : State) : (keepRead v p r s).outer = s.outer := by
  unfold keepRead
  try dsimp only
  repeat' split
  all_goals try dsimp only
  all_goals first | (simp only [State.modEntry_outer]; done) | (simp only [State.modEntry_outer]; rfl) | rfl

@[simp] theorem closureApplied_outer (l : LaneId) (f : LaneFrame) (p : Position) (r : ClosureRead) (s : State) : (closureApplied l f p r s).outer = s.outer := by
  unfold closureApplied
  try dsimp only
  repeat' split
  all_goals try dsimp only
  all_goals first | (simp only [completionTest_outer, evaluateRead_outer, keepRead_outer, popHead_outer, unexpected_outer]; done) | (simp only [completionTest_outer, evaluateRead_outer, keepRead_outer, popHead_outer, unexpected_outer]; rfl) | rfl

@[simp] theorem findApplied_outer (l : LaneId) (f : LaneFrame) (n : BitVec 16) (g : Finding) (s : State) : (findApplied l f n g s).outer = s.outer := by
  unfold findApplied
  try dsimp only
  repeat' split
  all_goals try dsimp only
  all_goals first | (simp only [applyFinding_outer, popHead_outer, recordLane_outer, testBound_outer, unexpected_outer]; done) | (simp only [applyFinding_outer, popHead_outer, recordLane_outer, testBound_outer, unexpected_outer]; rfl) | rfl

@[simp] theorem sweepEndApplied_outer (l : LaneId) (f : LaneFrame) (n : BitVec 16) (st : SweepStatus) (count : Nat) (s : State) : (sweepEndApplied l f n st count s).outer = s.outer := by
  unfold sweepEndApplied
  try dsimp only
  repeat' split
  all_goals try dsimp only
  all_goals first | (simp only [endSweep_outer, popHead_outer, recordLane_outer, testBound_outer, unexpected_outer]; done) | (simp only [endSweep_outer, popHead_outer, recordLane_outer, testBound_outer, unexpected_outer]; rfl) | rfl

@[simp] theorem clearBarrier_outer (l : LaneId) (v : VisitIx) (s : State) : (clearBarrier l v s).outer = s.outer := by
  unfold clearBarrier
  try dsimp only
  repeat' split
  all_goals try dsimp only
  all_goals first | (simp only [lowerBarrier_outer, State.modLcu_outer, State.modVisit_outer]; done) | (simp only [lowerBarrier_outer, State.modLcu_outer, State.modVisit_outer]; rfl) | rfl

@[simp] theorem settleClear_outer (v : VisitIx) (x : Visit) (s : State) : (settleClear v x s).outer = s.outer := by
  unfold settleClear
  try dsimp only
  repeat' split
  all_goals try dsimp only
  all_goals first | (simp only [advanceBookings_outer, closeVisit_outer, releasePins_outer, restoreBookings_outer, setVisitState_outer]; done) | (simp only [advanceBookings_outer, closeVisit_outer, releasePins_outer, restoreBookings_outer, setVisitState_outer]; rfl) | rfl

@[simp] theorem clearApplied_outer (l : LaneId) (f : LaneFrame) (s : State) : (clearApplied l f s).outer = s.outer := by
  unfold clearApplied
  try dsimp only
  repeat' split
  all_goals try dsimp only
  all_goals first | (simp only [clearBarrier_outer, drainRelease_outer, popHead_outer, releaseLane_outer, settleClear_outer, unexpected_outer]; done) | (simp only [clearBarrier_outer, drainRelease_outer, popHead_outer, releaseLane_outer, settleClear_outer, unexpected_outer]; rfl) | rfl

@[simp] theorem applyFrame_outer (l : LaneId) (f : LaneFrame) (c : InFrame) (s : State) : (applyFrame l f c s).outer = s.outer := by
  unfold applyFrame
  try dsimp only
  repeat' split
  all_goals try dsimp only
  all_goals first | (simp only [arriveApplied_outer, cardApplied_outer, clearApplied_outer, closureApplied_outer, codeApplied_outer, findApplied_outer, plateApplied_outer, sweepEndApplied_outer]; done) | (simp only [arriveApplied_outer, cardApplied_outer, clearApplied_outer, closureApplied_outer, codeApplied_outer, findApplied_outer, plateApplied_outer, sweepEndApplied_outer]; rfl) | rfl

@[simp] theorem applyHead_outer (l : LaneId) (isClass : InFrame → Bool) (s : State) : (applyHead l isClass s).outer = s.outer := by
  unfold applyHead
  try dsimp only
  repeat' split
  all_goals try dsimp only
  all_goals first | (simp only [applyFrame_outer]; done) | (simp only [applyFrame_outer]; rfl) | rfl

@[simp] theorem enterMode_outer (l : LaneId) (m : LaneMode) (target : Option LaneMode) (s : State) : (enterMode l m target s).outer = s.outer := by
  unfold enterMode
  try dsimp only
  repeat' split
  all_goals try dsimp only
  all_goals first | (simp only [raiseEvent_outer, State.modLcu_outer]; done) | (simp only [raiseEvent_outer, State.modLcu_outer]; rfl) | rfl

@[simp] theorem startWarming_outer (l : LaneId) (d : Dir) (s : State) : (startWarming l d s).outer = s.outer := by
  unfold startWarming
  try dsimp only
  repeat' split
  all_goals try dsimp only
  all_goals first | (simp only [enterMode_outer, produceWake_outer, warmTest_outer, State.modLcu_outer]; done) | (simp only [enterMode_outer, produceWake_outer, warmTest_outer, State.modLcu_outer]; rfl) | rfl

/-- The lane transmitters change nothing but the lanes. -/
@[simp] theorem transmitLanes_outer (s : State) : (transmitLanes s).outer = s.outer := rfl

/-- The lane transmitters leave every visit record. -/
@[simp] theorem transmitLanes_visit (s : State) (v : VisitIx) : (transmitLanes s).visit v = s.visit v := rfl

/-- The lane transmitters leave every lane's bound visit. -/
@[simp] theorem transmitLanes_bound (s : State) (l : LaneId) : (transmitLanes s).bound l = s.bound l := rfl

/-- Applying heads in turn keeps the outer parts. -/
@[simp] theorem applyHeads_outer (l : LaneId) (n : Nat) (s : State) : (applyHeads l n s).outer = s.outer := by
  induction n generalizing s with
  | zero => rfl
  | succ n ih =>
    unfold applyHeads
    split
    · split
      · rw [ih, transmitLanes_outer, applyFrame_outer]
      · rfl
    · rfl

@[simp] theorem reqOpenLane_outer (n : Nat) (d : Dir) (s : State) : (reqOpenLane n d s).2.outer = s.outer := by
  unfold reqOpenLane withLane applied refusedWith
  try dsimp only
  repeat' split
  all_goals try dsimp only
  all_goals first | (simp only [startWarming_outer]; done) | (simp only [startWarming_outer]; rfl) | rfl

@[simp] theorem turnLane_outer (l : LaneId) (d : Dir) (s : State) : (turnLane l d s).2.outer = s.outer := by
  unfold turnLane applied refusedWith
  try dsimp only
  repeat' split
  all_goals try dsimp only
  all_goals first | (simp only [enterMode_outer]; done) | (simp only [enterMode_outer]; rfl) | rfl

@[simp] theorem reqSetDirection_outer (n : Nat) (d : Dir) (s : State) : (reqSetDirection n d s).2.outer = s.outer := by
  unfold reqSetDirection withLane refusedWith
  try dsimp only
  repeat' split
  all_goals try dsimp only
  all_goals first | (simp only [turnLane_outer]; done) | (simp only [turnLane_outer]; rfl) | rfl

@[simp] theorem reqCloseLane_outer (n : Nat) (s : State) : (reqCloseLane n s).2.outer = s.outer := by
  unfold reqCloseLane withLane applied refusedWith
  try dsimp only
  repeat' split
  all_goals try dsimp only
  all_goals first | (simp only [enterClosed_outer, enterMode_outer]; done) | (simp only [enterClosed_outer, enterMode_outer]; rfl) | rfl

@[simp] theorem reqHoldLane_outer (n : Nat) (s : State) : (reqHoldLane n s).2.outer = s.outer := by
  unfold reqHoldLane withLane applied refusedWith
  try dsimp only
  repeat' split
  all_goals try dsimp only
  all_goals first | (simp only [addCause_outer]; done) | (simp only [addCause_outer]; rfl) | rfl

@[simp] theorem stepFrame_outer (l : LaneId) (s : State) : (stepFrame l s).2.outer = s.outer := by
  unfold stepFrame
  try dsimp only
  repeat' split
  all_goals try dsimp only
  all_goals first | (simp only [applyFrame_outer]; done) | (simp only [applyFrame_outer]; rfl) | rfl

@[simp] theorem stepAction_outer (l : LaneId) (s : State) : (stepAction l s).2.outer = s.outer := by
  unfold stepAction
  try dsimp only
  repeat' split
  all_goals try dsimp only
  all_goals first | (simp only [raiseBarrier_outer, showDirection_outer, stepFrame_outer]; done) | (simp only [raiseBarrier_outer, showDirection_outer, stepFrame_outer]; rfl) | rfl

@[simp] theorem reqStepLane_outer (n : Nat) (s : State) : (reqStepLane n s).2.outer = s.outer := by
  unfold reqStepLane withLane applied refusedWith
  try dsimp only
  repeat' split
  all_goals try dsimp only
  all_goals first | (simp only [stepAction_outer]; done) | (simp only [stepAction_outer]; rfl) | rfl

@[simp] theorem liftHold_outer (l : LaneId) (s : State) : (liftHold l s).outer = s.outer := by
  unfold liftHold
  try dsimp only
  repeat' split
  all_goals try dsimp only
  all_goals first | (simp only [raiseBarrier_outer, showDirection_outer, State.modLcu_outer]; done) | (simp only [raiseBarrier_outer, showDirection_outer, State.modLcu_outer]; rfl) | rfl

@[simp] theorem reqResumeLane_outer (n : Nat) (s : State) : (reqResumeLane n s).2.outer = s.outer := by
  unfold reqResumeLane withLane applied refusedWith
  try dsimp only
  repeat' split
  all_goals try dsimp only
  all_goals first | (simp only [transmitLanes_outer, liftHold_outer, applyHeads_outer]; done) | (simp only [transmitLanes_outer, liftHold_outer, applyHeads_outer]; rfl) | rfl

@[simp] theorem cancelBound_outer (l : LaneId) (v : VisitIx) (x : Visit) (s : State) : (cancelBound l v x s).outer = s.outer := by
  unfold cancelBound
  try dsimp only
  repeat' split
  all_goals try dsimp only
  all_goals first | (simp only [closeVisit_outer, leaveBayWait_outer, releaseBay_outer, releaseLane_outer, releasePins_outer, resolvedNotice_outer, restoreBookings_outer, State.modLcu_outer, State.modVisit_outer]; done) | (simp only [closeVisit_outer, leaveBayWait_outer, releaseBay_outer, releaseLane_outer, releasePins_outer, resolvedNotice_outer, restoreBookings_outer, State.modLcu_outer, State.modVisit_outer]; rfl) | rfl

@[simp] theorem clearLane_outer (l : LaneId) (s : State) : (clearLane l s).outer = s.outer := by
  unfold clearLane
  try dsimp only
  repeat' split
  all_goals try dsimp only
  all_goals first | (simp only [leaveParked_outer, lowerBarrier_outer, produceShow_outer, stopSweep_outer, State.modLane_outer, State.modPort_outer, State.modSweep_outer]; done) | (simp only [leaveParked_outer, lowerBarrier_outer, produceShow_outer, stopSweep_outer, State.modLane_outer, State.modPort_outer, State.modSweep_outer]; rfl) | rfl

@[simp] theorem reqResetLane_outer (n : Nat) (s : State) : (reqResetLane n s).2.outer = s.outer := by
  unfold reqResetLane withLane applied
  try dsimp only
  repeat' split
  all_goals try dsimp only
  all_goals first | (simp only [cancelBound_outer, clearLane_outer, raiseEvent_outer]; done) | (simp only [cancelBound_outer, clearLane_outer, raiseEvent_outer]; rfl) | rfl

@[simp] theorem reqReadLane_outer (n : Nat) (s : State) : (reqReadLane n s).2.outer = s.outer := by
  unfold reqReadLane withLane applied
  try dsimp only
  repeat' split
  all_goals try dsimp only
  all_goals first | (simp only [State.modPort_outer]; done) | (simp only [State.modPort_outer]; rfl) | rfl

@[simp] theorem warmTests_outer (i : Fin 8) (s : State) : (warmTests i s).outer = s.outer := by
  unfold warmTests
  exact outer_foldl _ (fun s l => by split <;> simp only [warmTest_outer]) _ _

@[simp] theorem reqWriteProfile_outer (i : Nat) (p : Profile) (s : State) : (reqWriteProfile i p s).2.outer = s.outer := by
  unfold reqWriteProfile applied refusedWith
  try dsimp only
  repeat' split
  all_goals try dsimp only
  all_goals first | (simp only [warmTests_outer]; done) | (simp only [warmTests_outer]; rfl) | rfl

@[simp] theorem reqReadProfile_outer (i : Nat) (s : State) : (reqReadProfile i s).2.outer = s.outer := by
  unfold reqReadProfile applied refusedWith
  try dsimp only
  repeat' split
  all_goals rfl

@[simp] theorem reqAssignProfile_outer (n i : Nat) (s : State) : (reqAssignProfile n i s).2.outer = s.outer := by
  unfold reqAssignProfile withLane applied refusedWith
  try dsimp only
  repeat' split
  all_goals try dsimp only
  all_goals first | (simp only [State.modLcu_outer]; done) | (simp only [State.modLcu_outer]; rfl) | rfl

@[simp] theorem abandonChecks_outer (l : LaneId) (v : VisitIx) (s : State) : (abandonChecks l v s).outer = s.outer := by
  unfold abandonChecks
  try dsimp only
  repeat' split
  all_goals try dsimp only
  all_goals first | (simp only [stopSweep_outer, stopT0_outer, State.modVisit_outer]; done) | (simp only [stopSweep_outer, stopT0_outer, State.modVisit_outer]; rfl) | rfl

@[simp] theorem overrideBay_outer (l : LaneId) (v : VisitIx) (x : Visit) (vd : Verdict) (s : State) : (overrideBay l v x vd s).outer = s.outer := by
  unfold overrideBay
  split
  · split
    · rfl
    · have h := claimBay_outer v s
      split
      · next t e => rw [← h, e]
      · next t e => rw [joinBayWait_outer, ← h, e]
  · rw [releaseBay_outer, leaveBayWait_outer]

@[simp] theorem lowerIfUp_outer (l : LaneId) (s : State) : (lowerIfUp l s).outer = s.outer := by
  unfold lowerIfUp
  try dsimp only
  repeat' split
  all_goals try dsimp only
  all_goals first | (simp only [lowerBarrier_outer]; done) | (simp only [lowerBarrier_outer]; rfl) | rfl

@[simp] theorem overrideDirection_outer (l : LaneId) (v : VisitIx) (s : State) : (overrideDirection l v s).outer = s.outer := by
  unfold overrideDirection
  try dsimp only
  repeat' split
  all_goals try dsimp only
  all_goals first | (simp only [makePending_outer, setPendingFlag_outer, setVisitState_outer, waitText_outer]; done) | (simp only [makePending_outer, setPendingFlag_outer, setVisitState_outer, waitText_outer]; rfl) | rfl

@[simp] theorem overrideVisit_outer (l : LaneId) (v : VisitIx) (x : Visit) (vd : Verdict) (s : State) : (overrideVisit l v x vd s).outer = s.outer := by
  unfold overrideVisit
  dsimp only
  rw [onVisit_outer _ _ _ (fun y t => appendBound_outer _ _ l y t), overrideDirection_outer, lowerIfUp_outer, overrideBay_outer,
    writeVerdict_outer, State.addReason_outer]
  split
  · rw [abandonChecks_outer]
  · rfl

@[simp] theorem reqSetVerdict_outer (n : Nat) (vd : Verdict) (s : State) : (reqSetVerdict n vd s).2.outer = s.outer := by
  unfold reqSetVerdict withLane applied refusedWith
  try dsimp only
  repeat' split
  all_goals try dsimp only
  all_goals first | (simp only [overrideVisit_outer]; done) | (simp only [overrideVisit_outer]; rfl) | rfl

@[simp] theorem settleReferred_outer (v : VisitIx) (x : Visit) (o : CloseOutcome) (s : State) : (settleReferred v x o s).outer = s.outer := by
  unfold settleReferred
  try dsimp only
  repeat' split
  all_goals try dsimp only
  all_goals first | (simp only [advanceBookings_outer, closeVisit_outer, releaseBay_outer, releasePins_outer, resolvedNotice_outer, restoreBookings_outer]; done) | (simp only [advanceBookings_outer, closeVisit_outer, releaseBay_outer, releasePins_outer, resolvedNotice_outer, restoreBookings_outer]; rfl) | rfl

@[simp] theorem reqResolve_outer (n : Nat) (o : Verdict) (s : State) : (reqResolve n o s).2.outer = s.outer := by
  unfold reqResolve withVisit applied refusedWith
  try dsimp only
  repeat' split
  all_goals try dsimp only
  all_goals first | (simp only [appendTrail_outer, settleReferred_outer]; done) | (simp only [appendTrail_outer, settleReferred_outer]; rfl) | rfl

@[simp] theorem reqCancelVisit_outer (n : Nat) (s : State) : (reqCancelVisit n s).2.outer = s.outer := by
  unfold reqCancelVisit withVisit applied refusedWith
  try dsimp only
  repeat' split
  all_goals try dsimp only
  all_goals first | (simp only [settleReferred_outer]; done) | (simp only [settleReferred_outer]; rfl) | rfl

@[simp] theorem reqReadVisit_outer (sel : VisitSel) (s : State) : (reqReadVisit sel s).2.outer = s.outer := by
  unfold reqReadVisit withVisit applied refusedWith
  try dsimp only
  repeat' split
  all_goals rfl

@[simp] theorem reqSetBays_outer (k : Nat) (s : State) : (reqSetBays k s).2.outer = s.outer := by
  unfold reqSetBays applied refusedWith
  try dsimp only
  repeat' split
  all_goals try dsimp only
  all_goals first | (simp only [grantFreeBays_outer]; done) | (simp only [grantFreeBays_outer]; rfl) | rfl

@[simp] theorem reqWritePolicy_outer (r : Reason) (c : PolicyClass) (s : State) : (reqWritePolicy r c s).2.outer = s.outer := by
  unfold reqWritePolicy applied refusedWith
  try dsimp only
  repeat' split
  all_goals rfl

@[simp] theorem reqReadPolicy_outer (s : State) : (reqReadPolicy s).2.outer = s.outer := by
  unfold reqReadPolicy applied
  try dsimp only
  repeat' split
  all_goals rfl

@[simp] theorem redirectDirection_outer (l : LaneId) (claimed : Bool) (s : State) : (redirectDirection l claimed s).outer = s.outer := by
  unfold redirectDirection
  try dsimp only
  repeat' split
  all_goals try dsimp only
  all_goals first | (simp only [makePending_outer, showDirection_outer]; done) | (simp only [makePending_outer, showDirection_outer]; rfl) | rfl

@[simp] theorem redirect_outer (l : LaneId) (v : VisitIx) (s : State) : (redirect l v s).outer = s.outer := by
  unfold redirect
  dsimp only
  rw [redirectDirection_outer, onVisit_outer _ _ _ (fun y t => appendBound_outer _ _ l y t)]
  split
  · rw [claimBay_outer, transmitLanes_outer, lowerIfUp_outer, State.modVisit_outer]
  · rw [setPendingFlag_outer, joinBayWait_outer, claimBay_outer, transmitLanes_outer, lowerIfUp_outer, State.modVisit_outer]

@[simp] theorem holdEffect_outer (v : VisitIx) (x : Visit) (s : State) : (holdEffect v x s).outer = s.outer := by
  unfold holdEffect
  try dsimp only
  repeat' split
  all_goals try dsimp only
  all_goals first | (simp only [raiseAuthority_outer, redirect_outer]; done) | (simp only [raiseAuthority_outer, redirect_outer]; rfl) | rfl

@[simp] theorem applyHold_outer (c : Text) (k : HoldKind) (v : VisitIx) (x : Visit) (s : State) : (applyHold c k v x s).outer = s.outer := by
  unfold applyHold
  try dsimp only
  repeat' split
  all_goals try dsimp only
  all_goals first | (simp only [holdEffect_outer, raiseAuthority_outer, State.addReason_outer, State.modVisit_outer]; done) | (simp only [holdEffect_outer, raiseAuthority_outer, State.addReason_outer, State.modVisit_outer]; rfl) | rfl

/-- A hold applied to one record keeps the outer parts. -/
@[simp] theorem holdVisit_outer (c : Text) (k : HoldKind) (a : List VisitIx × State) (v : VisitIx) :
    (holdVisit c k a v).2.outer = a.2.outer := by
  unfold holdVisit
  split
  · split
    · exact applyHold_outer _ _ _ _ _
    · rfl
  · rfl

@[simp] theorem holdVisits_outer (c : Text) (k : HoldKind) (s : State) : (holdVisits c k s).2.outer = s.outer := by
  unfold holdVisits
  have h : ∀ (vs : List VisitIx) (a : List VisitIx × State), (vs.foldl (holdVisit c k) a).2.outer = a.2.outer := by
    intro vs
    induction vs with
    | nil => intro a; rfl
    | cons v vs ih => intro a; exact (ih _).trans (holdVisit_outer c k a v)
  exact h _ _

@[simp] theorem placeHold_outer (r : LoadResult) (i : Nat) (c : Text) (k : HoldKind) (s : State) : (placeHold r i c k s).2.outer = s.outer := by
  unfold placeHold applied
  try dsimp only
  repeat' split
  all_goals try dsimp only
  all_goals first | (simp only [holdVisits_outer, raiseEvent_outer]; done) | (simp only [holdVisits_outer, raiseEvent_outer]; rfl) | rfl

@[simp] theorem reqAddHold_outer (c : Text) (k : HoldKind) (ref : Nat) (s : State) : (reqAddHold c k ref s).2.outer = s.outer := by
  unfold reqAddHold
  split
  · split
    · rw [placeHold_outer]; rfl
    · split
      · rw [placeHold_outer]; rfl
      · rfl
  · rfl

@[simp] theorem reqRemoveHold_outer (c : Text) (s : State) : (reqRemoveHold c s).2.outer = s.outer := by
  unfold reqRemoveHold applied refusedWith
  try dsimp only
  repeat' split
  all_goals try dsimp only
  all_goals first | (simp only [raiseEvent_outer]; done) | (simp only [raiseEvent_outer]; rfl) | rfl

@[simp] theorem reqReadHold_outer (sel : HoldSel) (s : State) : (reqReadHold sel s).2.outer = s.outer := by
  unfold reqReadHold applied refusedWith
  try dsimp only
  repeat' split
  all_goals rfl

/-- The authority's view keeps the outer parts. -/
@[simp] theorem authorityView_outer (s : State) (o : Option Visit) : (s.authorityView o).2.outer = s.outer := by
  unfold State.authorityView applied refusedWith
  repeat' split
  all_goals rfl

@[simp] theorem reqAuthReadVisit_outer (sel : VisitSel) (s : State) : (reqAuthReadVisit sel s).2.outer = s.outer := by
  unfold reqAuthReadVisit refusedWith
  try dsimp only
  repeat' split
  all_goals try dsimp only
  all_goals first | (simp only [authorityView_outer]; done) | (simp only [authorityView_outer]; rfl) | rfl

@[simp] theorem setNotice_outer (k : Link) (word mask : BitVec 16) (s : State) : (setNotice k word mask s).outer = s.outer := by
  unfold setNotice
  try dsimp only
  repeat' split
  all_goals try dsimp only
  all_goals first | (simp only [setAuthNotice_outer, setTermNotice_outer]; done) | (simp only [setAuthNotice_outer, setTermNotice_outer]; rfl) | rfl

@[simp] theorem noticeReply_outer (k : Link) (s : State) : (noticeReply k s).2.outer = s.outer := by
  unfold noticeReply applied
  try dsimp only
  repeat' split
  all_goals rfl

@[simp] theorem reqRaiseNotice_outer (k : Link) (flags : BitVec 16) (s : State) : (reqRaiseNotice k flags s).2.outer = s.outer := by
  unfold reqRaiseNotice refusedWith
  try dsimp only
  repeat' split
  all_goals try dsimp only
  all_goals first | (simp only [noticeReply_outer, setNotice_outer]; done) | (simp only [noticeReply_outer, setNotice_outer]; rfl) | rfl

@[simp] theorem reqClearNotice_outer (k : Link) (flags : BitVec 16) (s : State) : (reqClearNotice k flags s).2.outer = s.outer := by
  unfold reqClearNotice
  try dsimp only
  repeat' split
  all_goals try dsimp only
  all_goals first | (simp only [noticeReply_outer, setNotice_outer]; done) | (simp only [noticeReply_outer, setNotice_outer]; rfl) | rfl

@[simp] theorem reqMaskNotice_outer (k : Link) (flags : BitVec 16) (s : State) : (reqMaskNotice k flags s).2.outer = s.outer := by
  unfold reqMaskNotice
  try dsimp only
  repeat' split
  all_goals try dsimp only
  all_goals first | (simp only [noticeReply_outer, setNotice_outer]; done) | (simp only [noticeReply_outer, setNotice_outer]; rfl) | rfl

@[simp] theorem reqUnmaskNotice_outer (k : Link) (flags : BitVec 16) (s : State) : (reqUnmaskNotice k flags s).2.outer = s.outer := by
  unfold reqUnmaskNotice
  try dsimp only
  repeat' split
  all_goals try dsimp only
  all_goals first | (simp only [noticeReply_outer, setNotice_outer]; done) | (simp only [noticeReply_outer, setNotice_outer]; rfl) | rfl

@[simp] theorem reqReadNotice_outer (k : Link) (s : State) : (reqReadNotice k s).2.outer = s.outer := by
  unfold reqReadNotice
  try dsimp only
  repeat' split
  all_goals try dsimp only
  all_goals first | (simp only [noticeReply_outer]; done) | (simp only [noticeReply_outer]; rfl) | rfl

@[simp] theorem reqWriteSlot_outer (i : Nat) (bytes : List Byte) (s : State) : (reqWriteSlot i bytes s).2.outer = s.outer := by
  unfold reqWriteSlot applied refusedWith
  try dsimp only
  repeat' split
  all_goals rfl

@[simp] theorem reqReadSlot_outer (i : Nat) (s : State) : (reqReadSlot i s).2.outer = s.outer := by
  unfold reqReadSlot applied refusedWith
  try dsimp only
  repeat' split
  all_goals rfl

@[simp] theorem checkSequence_outer (l : LaneId) (f : LaneFrame) (s : State) : (checkSequence l f s).outer = s.outer := by
  unfold checkSequence
  try dsimp only
  repeat' split
  all_goals try dsimp only
  all_goals first | (simp only [recordLane_outer, State.modPort_outer]; done) | (simp only [recordLane_outer, State.modPort_outer]; rfl) | rfl

@[simp] theorem enqueueFrame_outer (l : LaneId) (f : LaneFrame) (s : State) : (enqueueFrame l f s).outer = s.outer := by
  unfold enqueueFrame
  try dsimp only
  repeat' split
  all_goals try dsimp only
  all_goals first | (simp only [recordLane_outer, unexpected_outer, State.modPort_outer]; done) | (simp only [recordLane_outer, unexpected_outer, State.modPort_outer]; rfl) | rfl

@[simp] theorem endSignWait_outer (l : LaneId) (s : State) : (endSignWait l s).outer = s.outer := by
  unfold endSignWait
  try dsimp only
  repeat' split
  all_goals try dsimp only
  all_goals first | (simp only [State.modPort_outer]; done) | (simp only [State.modPort_outer]; rfl) | rfl

@[simp] theorem takeAckSign_outer (l : LaneId) (f : LaneFrame) (echo : Byte) (s : State) : (takeAckSign l f echo s).outer = s.outer := by
  unfold takeAckSign
  try dsimp only
  repeat' split
  all_goals try dsimp only
  all_goals first | (simp only [endSignWait_outer, handMark_outer, recordLane_outer, unexpected_outer]; done) | (simp only [endSignWait_outer, handMark_outer, recordLane_outer, unexpected_outer]; rfl) | rfl

@[simp] theorem takeAckBarrier_outer (l : LaneId) (f : LaneFrame) (echo : Byte) (pos : BarrierPos) (s : State) : (takeAckBarrier l f echo pos s).outer = s.outer := by
  unfold takeAckBarrier
  try dsimp only
  repeat' split
  all_goals try dsimp only
  all_goals first | (simp only [recordLane_outer, unexpected_outer, State.modPort_outer]; done) | (simp only [recordLane_outer, unexpected_outer, State.modPort_outer]; rfl) | rfl

@[simp] theorem routeFrame_outer (l : LaneId) (f : LaneFrame) (s : State) : (routeFrame l f s).outer = s.outer := by
  unfold routeFrame
  try dsimp only
  repeat' split
  all_goals try dsimp only
  all_goals first | (simp only [addReady_outer, enqueueFrame_outer, recordLane_outer, takeAckBarrier_outer, takeAckSign_outer]; done) | (simp only [addReady_outer, enqueueFrame_outer, recordLane_outer, takeAckBarrier_outer, takeAckSign_outer]; rfl) | rfl

@[simp] theorem takeFrame_outer (l : LaneId) (f : LaneFrame) (s : State) : (takeFrame l f s).outer = s.outer := by
  unfold takeFrame
  try dsimp only
  repeat' split
  all_goals try dsimp only
  all_goals first | (simp only [checkSequence_outer, routeFrame_outer]; done) | (simp only [checkSequence_outer, routeFrame_outer]; rfl) | rfl

@[simp] theorem laneComplete_outer (l : LaneId) (bytes : List Byte) (s : State) : (laneComplete l bytes s).outer = s.outer := by
  unfold laneComplete
  try dsimp only
  repeat' split
  all_goals try dsimp only
  all_goals first | (simp only [recordLane_outer, takeFrame_outer]; done) | (simp only [recordLane_outer, takeFrame_outer]; rfl) | rfl

@[simp] theorem setLaneRx_outer (l : LaneId) (rx : List Byte) (s : State) : (setLaneRx l rx s).outer = s.outer := by
  unfold setLaneRx
  try dsimp only
  repeat' split
  all_goals try dsimp only
  all_goals first | (simp only [State.modPort_outer]; done) | (simp only [State.modPort_outer]; rfl) | rfl

@[simp] theorem cutLaneFrame_outer (l : LaneId) (bytes : List Byte) (s : State) : (cutLaneFrame l bytes s).outer = s.outer := by
  unfold cutLaneFrame
  try dsimp only
  repeat' split
  all_goals try dsimp only
  all_goals first | (simp only [recordLane_outer, setLaneRx_outer]; done) | (simp only [recordLane_outer, setLaneRx_outer]; rfl) | rfl

@[simp] theorem laneDown_outer (l : LaneId) (s : State) : (laneDown l s).outer = s.outer := by
  unfold laneDown
  try dsimp only
  repeat' split
  all_goals try dsimp only
  all_goals first | (simp only [cutLaneFrame_outer, State.modPort_outer]; done) | (simp only [cutLaneFrame_outer, State.modPort_outer]; rfl) | rfl

@[simp] theorem laneUp_outer (l : LaneId) (s : State) : (laneUp l s).outer = s.outer := by
  unfold laneUp
  try dsimp only
  repeat' split
  all_goals try dsimp only
  all_goals first | (simp only [State.modPort_outer]; done) | (simp only [State.modPort_outer]; rfl) | rfl

@[simp] theorem laneIdle_outer (l : LaneId) (s : State) : (laneIdle l s).outer = s.outer := by
  unfold laneIdle
  try dsimp only
  repeat' split
  all_goals try dsimp only
  all_goals first | (simp only [cutLaneFrame_outer]; done) | (simp only [cutLaneFrame_outer]; rfl) | rfl

@[simp] theorem laneSent_outer (l : LaneId) (s : State) : (laneSent l s).outer = s.outer := by
  unfold laneSent
  try dsimp only
  repeat' split
  all_goals try dsimp only
  all_goals first | (simp only [State.modPort_outer]; done) | (simp only [State.modPort_outer]; rfl) | rfl

@[simp] theorem expireSign_outer (l : LaneId) (s : State) : (expireSign l s).outer = s.outer := by
  unfold expireSign
  try dsimp only
  repeat' split
  all_goals try dsimp only
  all_goals first | (simp only [endSignWait_outer, recordLane_outer]; done) | (simp only [endSignWait_outer, recordLane_outer]; rfl) | rfl

@[simp] theorem markBarrierDown_outer (l : LaneId) (s : State) : (markBarrierDown l s).outer = s.outer := by
  unfold markBarrierDown
  try dsimp only
  repeat' split
  all_goals try dsimp only
  all_goals first | (simp only [State.modVisit_outer]; done) | (simp only [State.modVisit_outer]; rfl) | rfl

@[simp] theorem expireBarrier_outer (l : LaneId) (s : State) : (expireBarrier l s).outer = s.outer := by
  unfold expireBarrier
  try dsimp only
  repeat' split
  all_goals try dsimp only
  all_goals first | (simp only [addCause_outer, lowerBarrier_outer, markBarrierDown_outer]; done) | (simp only [addCause_outer, lowerBarrier_outer, markBarrierDown_outer]; rfl) | rfl

@[simp] theorem expireWarmup_outer (l : LaneId) (s : State) : (expireWarmup l s).outer = s.outer := by
  unfold expireWarmup
  try dsimp only
  repeat' split
  all_goals try dsimp only
  all_goals first | (simp only [enterClosed_outer, recordLane_outer]; done) | (simp only [enterClosed_outer, recordLane_outer]; rfl) | rfl

@[simp] theorem tickAll_outer (s : State) : (tickAll s).outer = s.outer := by
  unfold tickAll
  try dsimp only
  repeat' split
  all_goals rfl

@[simp] theorem clockSecond_outer (s : State) : (clockSecond s).outer = s.outer := by
  unfold clockSecond
  try dsimp only
  repeat' split
  all_goals rfl

@[simp] theorem reqSetEventEnable_outer (kinds : BitVec 16) (s : State) : (reqSetEventEnable kinds s).2.outer = s.outer := by
  unfold reqSetEventEnable applied refusedWith
  try dsimp only
  repeat' split
  all_goals rfl

@[simp] theorem reqReadStatus_outer (s : State) : (reqReadStatus s).2.outer = s.outer := by
  unfold reqReadStatus applied
  try dsimp only
  repeat' split
  all_goals rfl

@[simp] theorem reqClearFaults_outer (n : Nat) (kinds : BitVec 16) (s : State) : (reqClearFaults n kinds s).2.outer = s.outer := by
  unfold reqClearFaults withKinds withPort applied
  try dsimp only
  repeat' split
  all_goals try dsimp only
  all_goals first | (simp only [State.modFault_outer]; done) | (simp only [State.modFault_outer]; rfl) | rfl

@[simp] theorem reqSetFaultMask_outer (n : Nat) (kinds : BitVec 16) (s : State) : (reqSetFaultMask n kinds s).2.outer = s.outer := by
  unfold reqSetFaultMask withKinds withPort applied
  try dsimp only
  repeat' split
  all_goals try dsimp only
  all_goals first | (simp only [State.modFault_outer]; done) | (simp only [State.modFault_outer]; rfl) | rfl

@[simp] theorem reqSetFaultSeverity_outer (n : Nat) (kinds : BitVec 16) (s : State) : (reqSetFaultSeverity n kinds s).2.outer = s.outer := by
  unfold reqSetFaultSeverity withKinds withPort applied refusedWith
  try dsimp only
  repeat' split
  all_goals try dsimp only
  all_goals first | (simp only [State.modFault_outer]; done) | (simp only [State.modFault_outer]; rfl) | rfl

@[simp] theorem reqReadFaults_outer (n : Nat) (s : State) : (reqReadFaults n s).2.outer = s.outer := by
  unfold reqReadFaults withPort applied
  try dsimp only
  repeat' split
  all_goals rfl

end Sys2Proof.Machine
end

