-- ==== Sys2Proof/Laws/Serving.lean ====
section
/-! SUPPORT. What the transmitters' choice and the serving of requests do: the choice made twice is the choice made once, and a request
that arrives on an open link is answered at once. -/

namespace Sys2Proof.Machine

/-! ### The lane transmitters -/

/-- A lane port that is sending, or whose line is DOWN, chooses nothing. -/
theorem Port.transmit_of_not_free (a : Nat) (p : Port) (h : ¬ (p.line = .up ∧ p.tx = none)) : p.transmit a = p := by
  unfold Port.transmit
  rw [if_neg h]

/-- A lane port either has nothing to send, whatever the sign-ACK timeout, or begins a frame. -/
theorem Port.transmit_cases (p : Port) : (∀ a, p.transmit a = p) ∨ (∀ a, (p.transmit a).tx ≠ none) := by
  by_cases h : p.line = .up ∧ p.tx = none
  · simp only [Port.transmit, if_pos h]
    cases p.hpBarrier with
    | some c => right; intro a; simp [Port.send]
    | none =>
      have rest : ∀ q : Port, q = (match p.hpSweep with
          | some w => { p.send (w.frame p.outSeq) with hpSweep := none }
          | none =>
            match p.hpReread with
            | some u => { p.send (rereadFrame u p.outSeq) with hpReread := none }
            | none => if p.hpWake then { p.send (wakeFrame p.outSeq) with hpWake := false } else p) → q = p ∨ q.tx ≠ none := by
        intro q e
        subst e
        cases p.hpSweep with
        | some w => right; simp [Port.send]
        | none =>
          cases p.hpReread with
          | some u => right; simp [Port.send]
          | none =>
            cases p.hpWake with
            | true => right; simp [Port.send]
            | false => left; simp
      cases p.hpShow with
      | none =>
        rcases rest _ rfl with e | e
        · left; intro _; exact e
        · right; intro _; exact e
      | some w =>
        cases p.signWait with
        | none => right; intro a; simp [Port.send]
        | some v =>
          rcases rest _ rfl with e | e
          · left; intro _; exact e
          · right; intro _; exact e
  · left; intro a; exact Port.transmit_of_not_free a p h

/-- A lane port that has chosen chooses nothing more. -/
theorem Port.transmit_transmit (a b : Nat) (p : Port) : (p.transmit a).transmit b = p.transmit a := by
  rcases p.transmit_cases with h | h
  · rw [h a, h b]
  · exact Port.transmit_of_not_free b _ fun e => h a e.2

/-- The lane transmitters' choice made twice is the choice made once. -/
theorem transmitLanes_transmitLanes (s : State) : transmitLanes (transmitLanes s) = transmitLanes s := by
  unfold transmitLanes
  simp only [Vector.map_map]
  congr 1
  apply Vector.map_congr_left
  intro x _
  simp only [Function.comp, Lane.transmit, Port.transmit_transmit]

/-- The lane transmitters leave both management links. -/
@[simp] theorem transmitLanes_term (s : State) : (transmitLanes s).term = s.term := rfl
@[simp] theorem transmitLanes_auth (s : State) : (transmitLanes s).auth = s.auth := rfl

/-! ### The management transmitters -/

/-- The terminal transmitter changes the link, the event flags and the turn alone. -/
theorem kickTerm_eq (s : State) :
    kickTerm s = { s with term := (kickTerm s).term, events := (kickTerm s).events, turnRecord := (kickTerm s).turnRecord } := by
  unfold kickTerm
  split
  · split
    · rfl
    · unfold chooseTerm
      split
      · split <;> rfl
      · rfl
      · rfl
      · rfl
  · rfl

/-- The authority transmitter changes the link and the attention-pending flag alone. -/
theorem kickAuth_eq (s : State) : kickAuth s = { s with auth := (kickAuth s).auth, attention := (kickAuth s).attention } := by
  unfold kickAuth
  split
  · split
    · rfl
    · split <;> rfl
  · rfl

@[simp] theorem kickTerm_auth (s : State) : (kickTerm s).auth = s.auth := by rw [kickTerm_eq]
@[simp] theorem kickTerm_lanes (s : State) : (kickTerm s).lanes = s.lanes := by rw [kickTerm_eq]
@[simp] theorem kickTerm_profiles (s : State) : (kickTerm s).profiles = s.profiles := by rw [kickTerm_eq]
@[simp] theorem kickAuth_term (s : State) : (kickAuth s).term = s.term := by rw [kickAuth_eq]
@[simp] theorem kickAuth_lanes (s : State) : (kickAuth s).lanes = s.lanes := by rw [kickAuth_eq]
@[simp] theorem kickAuth_profiles (s : State) : (kickAuth s).profiles = s.profiles := by rw [kickAuth_eq]
@[simp] theorem kickAuth_events (s : State) : (kickAuth s).events = s.events := by rw [kickAuth_eq]
@[simp] theorem kickAuth_records (s : State) : (kickAuth s).records = s.records := by rw [kickAuth_eq]
@[simp] theorem kickAuth_turnRecord (s : State) : (kickAuth s).turnRecord = s.turnRecord := by rw [kickAuth_eq]

/-- The terminal link after its transmitter's choice keeps its state and its queue. -/
@[simp] theorem kickTerm_queue (s : State) : (kickTerm s).term.queue = s.term.queue := by
  unfold kickTerm chooseTerm sendEvent sendRecord beginTerm clearEvent
  repeat' split
  all_goals rfl

@[simp] theorem kickTerm_state (s : State) : (kickTerm s).term.state = s.term.state := by
  unfold kickTerm chooseTerm sendEvent sendRecord beginTerm clearEvent
  repeat' split
  all_goals rfl

@[simp] theorem kickAuth_queue (s : State) : (kickAuth s).auth.queue = s.auth.queue := by
  unfold kickAuth
  repeat' split
  all_goals rfl

@[simp] theorem kickAuth_state (s : State) : (kickAuth s).auth.state = s.auth.state := by
  unfold kickAuth
  repeat' split
  all_goals rfl

/-- The transmitters' choice keeps the lanes' profile table. -/
@[simp] theorem settle_profiles (s : State) : (settle s).profiles = s.profiles := by simp [settle, transmitLanes]

/-- The transmitters' choice keeps the request queues. -/
@[simp] theorem settle_queue (k : Link) (s : State) : ((settle s).link k).queue = (s.link k).queue := by
  cases k <;> simp [settle]

/-- The transmitters' choice keeps the link states. -/
@[simp] theorem settle_state (k : Link) (s : State) : ((settle s).link k).state = (s.link k).state := by
  cases k <;> simp [settle]

/-- The part is settled exactly when each transmitter has nothing to choose. -/
theorem settle_eq_self_iff (s : State) : settle s = s ↔ transmitLanes s = s ∧ kickTerm s = s ∧ kickAuth s = s := by
  constructor
  · intro h
    have hl : (transmitLanes s).lanes = s.lanes := by
      have := congrArg State.lanes h
      simpa [settle] using this
    have ht : transmitLanes s = s := by
      have e : transmitLanes s = { s with lanes := (transmitLanes s).lanes } := rfl
      rw [e, hl]
    have h' : kickAuth (kickTerm s) = s := by simpa [settle, ht] using h
    have hk : kickTerm s = s := by
      have h1 : (kickTerm s).term = s.term := by simpa using congrArg State.term h'
      have h2 : (kickTerm s).events = s.events := by simpa using congrArg State.events h'
      have h3 : (kickTerm s).turnRecord = s.turnRecord := by simpa using congrArg State.turnRecord h'
      have e := kickTerm_eq s
      rw [h1, h2, h3] at e
      exact e
    exact ⟨ht, hk, by rw [hk] at h'; exact h'⟩
  · rintro ⟨h1, h2, h3⟩
    simp only [settle, h1, h2, h3]

/-- With the reply holding place empty and nothing in transmission, a terminal link that has chosen has nothing else to send. -/
theorem reply_none_of_kickTerm {s : State} (h : kickTerm s = s) (hs : s.term.state = .up) (ht : s.term.tx = none) :
    s.term.reply = none := by
  cases hr : s.term.reply with
  | none => rfl
  | some r =>
    have := congrArg (fun t : State => t.term.tx) h
    simp [kickTerm, hs, ht, hr] at this

/-- The same of the authority link. -/
theorem reply_none_of_kickAuth {s : State} (h : kickAuth s = s) (hs : s.auth.state = .up) (ht : s.auth.tx = none) :
    s.auth.reply = none := by
  cases hr : s.auth.reply with
  | none => rfl
  | some r =>
    have := congrArg (fun t : State => t.auth.tx) h
    simp [kickAuth, hs, ht, hr] at this

/-! ### Requests and the links -/

/-- The links from the outer parts. -/
theorem link_of_outer {s t : State} (h : t.outer = s.outer) (j : Link) : t.link j = s.link j := by
  have h1 : t.term = s.term := congrArg Prod.fst h
  have h2 : t.auth = s.auth := congrArg (fun p => p.2.1) h
  cases j <;> simp [h1, h2]

/-- The queue of commands from the outer parts. -/
theorem pending_of_outer {s t : State} (h : t.outer = s.outer) : t.pending = s.pending := congrArg (fun p => p.2.2.1) h

/-- A terminal request but RESTART keeps the outer parts. -/
theorem ownerTerminal_outer (s : State) : ∀ r : Request, r ≠ .restart → (ownerTerminal r s).2.outer = s.outer
  | .openLane n d, _ => reqOpenLane_outer n d s
  | .setDirection n d, _ => reqSetDirection_outer n d s
  | .closeLane n, _ => reqCloseLane_outer n s
  | .holdLane n, _ => reqHoldLane_outer n s
  | .stepLane n, _ => reqStepLane_outer n s
  | .resumeLane n, _ => reqResumeLane_outer n s
  | .resetLane n, _ => reqResetLane_outer n s
  | .readLane n, _ => reqReadLane_outer n s
  | .writeProfile i p, _ => reqWriteProfile_outer i p s
  | .readProfile i, _ => reqReadProfile_outer i s
  | .assignProfile n i, _ => reqAssignProfile_outer n i s
  | .setVerdict n v, _ => reqSetVerdict_outer n v s
  | .resolve n o, _ => reqResolve_outer n o s
  | .cancelVisit n, _ => reqCancelVisit_outer n s
  | .readVisit sel, _ => reqReadVisit_outer sel s
  | .setBays k, _ => reqSetBays_outer k s
  | .writePolicy r c, _ => reqWritePolicy_outer r c s
  | .readPolicy, _ => reqReadPolicy_outer s
  | .loadBooking f, _ => reqLoadBooking_outer f s
  | .cancelBooking r, _ => reqCancelBooking_outer r s
  | .purgeBooking r, _ => reqPurgeBooking_outer r s
  | .readBooking sel, _ => reqReadBooking_outer sel s
  | .findBooking c k, _ => reqFindBooking_outer c k s
  | .loadWindow i a b c, _ => reqLoadWindow_outer i a b c s
  | .removeWindow i, _ => reqRemoveWindow_outer i s
  | .readWindow i, _ => reqReadWindow_outer i s
  | .setClock m sec, _ => reqSetClock_outer m sec s
  | .readClock, _ => reqReadClock_outer s
  | .setSlack e l, _ => reqSetSlack_outer e l s
  | .loadClosure c ts, _ => reqLoadClosure_outer c ts s
  | .removeClosure c, _ => reqRemoveClosure_outer c s
  | .setRetain c b, _ => reqSetRetain_outer c b s
  | .readClosure sel, _ => reqReadClosure_outer sel s
  | .writeRule i r, _ => reqWriteRule_outer i r s
  | .readRule i, _ => reqReadRule_outer i s
  | .readSweep n, _ => reqReadSweep_outer n s
  | .writeDirection i e, _ => reqWriteDirection_outer i e s
  | .clearDirection i, _ => reqClearDirection_outer i s
  | .readDirection i, _ => reqReadDirection_outer i s
  | .writeMessage i t, _ => reqWriteMessage_outer i t s
  | .readMessage i, _ => reqReadMessage_outer i s
  | .trailFreeze, _ => reqTrailFreeze_outer s
  | .trailRead, _ => reqTrailRead_outer s
  | .trailThaw, _ => reqTrailThaw_outer s
  | .addHold _ _ _, _ => rfl
  | .removeHold _, _ => rfl
  | .readHold sel, _ => reqReadHold_outer sel s
  | .raiseNotice f, _ => reqRaiseNotice_outer .terminal f s
  | .clearNotice f, _ => reqClearNotice_outer .terminal f s
  | .maskNotice f, _ => reqMaskNotice_outer .terminal f s
  | .unmaskNotice f, _ => reqUnmaskNotice_outer .terminal f s
  | .readNotice, _ => reqReadNotice_outer .terminal s
  | .writeSlot i b, _ => reqWriteSlot_outer i b s
  | .readSlot i, _ => reqReadSlot_outer i s
  | .setEventEnable k, _ => reqSetEventEnable_outer k s
  | .readStatus, _ => reqReadStatus_outer s
  | .restart, h => absurd rfl h
  | .clearFaults p k, _ => reqClearFaults_outer p k s
  | .setFaultMask p k, _ => reqSetFaultMask_outer p k s
  | .setFaultSeverity p k, _ => reqSetFaultSeverity_outer p k s
  | .readFaults p, _ => reqReadFaults_outer p s

/-- An authority request keeps the outer parts. -/
theorem ownerAuthority_outer (s : State) : ∀ r : Request, (ownerAuthority r s).2.outer = s.outer
  | .addHold c k ref => reqAddHold_outer c k ref s
  | .removeHold c => reqRemoveHold_outer c s
  | .readHold sel => reqReadHold_outer sel s
  | .readVisit sel => reqAuthReadVisit_outer sel s
  | .raiseNotice f => reqRaiseNotice_outer .authority f s
  | .clearNotice f => reqClearNotice_outer .authority f s
  | .maskNotice f => reqMaskNotice_outer .authority f s
  | .unmaskNotice f => reqUnmaskNotice_outer .authority f s
  | .readNotice => reqReadNotice_outer .authority s
  | .writeSlot i b => reqWriteSlot_outer i b s
  | .readSlot i => reqReadSlot_outer i s
  | .openLane _ _ => rfl
  | .setDirection _ _ => rfl
  | .closeLane _ => rfl
  | .holdLane _ => rfl
  | .stepLane _ => rfl
  | .resumeLane _ => rfl
  | .resetLane _ => rfl
  | .readLane _ => rfl
  | .writeProfile _ _ => rfl
  | .readProfile _ => rfl
  | .assignProfile _ _ => rfl
  | .setVerdict _ _ => rfl
  | .resolve _ _ => rfl
  | .cancelVisit _ => rfl
  | .setBays _ => rfl
  | .writePolicy _ _ => rfl
  | .readPolicy => rfl
  | .loadBooking _ => rfl
  | .cancelBooking _ => rfl
  | .purgeBooking _ => rfl
  | .readBooking _ => rfl
  | .findBooking _ _ => rfl
  | .loadWindow _ _ _ _ => rfl
  | .removeWindow _ => rfl
  | .readWindow _ => rfl
  | .setClock _ _ => rfl
  | .readClock => rfl
  | .setSlack _ _ => rfl
  | .loadClosure _ _ => rfl
  | .removeClosure _ => rfl
  | .setRetain _ _ => rfl
  | .readClosure _ => rfl
  | .writeRule _ _ => rfl
  | .readRule _ => rfl
  | .readSweep _ => rfl
  | .writeDirection _ _ => rfl
  | .clearDirection _ => rfl
  | .readDirection _ => rfl
  | .writeMessage _ _ => rfl
  | .readMessage _ => rfl
  | .trailFreeze => rfl
  | .trailRead => rfl
  | .trailThaw => rfl
  | .setEventEnable _ => rfl
  | .readStatus => rfl
  | .restart => rfl
  | .clearFaults _ _ => rfl
  | .setFaultMask _ _ => rfl
  | .setFaultSeverity _ _ => rfl
  | .readFaults _ => rfl

/-- An owner's request but RESTART keeps the outer parts. -/
theorem owner_outer (k : Link) (r : Request) (s : State) (h : r ≠ .restart) : (owner k r s).2.outer = s.outer := by
  cases k
  · exact ownerTerminal_outer s r h
  · exact ownerAuthority_outer s r

/-- A request leaves each link as it was, or as RESTART leaves it. -/
theorem owner_link (k : Link) (r : Request) (s : State) (j : Link) :
    (owner k r s).2.link j = s.link j ∨ (owner k r s).2.link j = (s.link j).restart := by
  by_cases h : r = .restart
  · subst h
    cases k
    · right; cases j <;> rfl
    · left; rfl
  · exact Or.inl (link_of_outer (owner_outer k r s h) j)

/-- A request taken leaves each link as it was, or as RESTART leaves it. -/
theorem runRequest_link (k : Link) (q : QueuedRequest) (s : State) (j : Link) :
    (runRequest k q s).2.link j = s.link j ∨ (runRequest k q s).2.link j = (s.link j).restart := by
  unfold runRequest
  split
  · left; exact link_of_outer (by simp [refusedWith]) j
  · split
    · left; rfl
    · split
      · exact owner_link k _ s j
      · left; rfl

/-- The state after a request was taken on a link: its effect with its reply in the holding place. -/
theorem takeRequest_eq (k : Link) (q : QueuedRequest) (s : State) :
    takeRequest k q s =
      (runRequest k q s).2.replied k
        { tag := q.tag, code := q.code, status := (runRequest k q s).1.1, result := (runRequest k q s).1.2 } := rfl

/-- A link with an empty queue is served no further. -/
theorem serveLink_of_queue_nil (k : Link) (n : Nat) (s : State) (h : (s.link k).queue = []) : serveLink k n s = s := by
  cases n with
  | zero => rfl
  | succ n => unfold serveLink; rw [h]; split <;> simp_all

/-- A link with its reply holding place occupied is served no further. -/
theorem serveLink_of_reply (k : Link) (n : Nat) (s : State) (h : (s.link k).reply ≠ none) : serveLink k n s = s := by
  cases n with
  | zero => rfl
  | succ n => unfold serveLink; split <;> simp_all

/-- Serving is the transmitters' choice where after it no link has a request beside an empty reply holding place. -/
theorem serve_eq_settle (s : State) (h : ∀ k : Link, ((settle s).link k).reply = none → ((settle s).link k).queue = []) :
    serve s = settle s := by
  have hk : ∀ (k : Link) (n : Nat), serveLink k n (settle s) = settle s := by
    intro k n
    cases hr : ((settle s).link k).reply with
    | none => exact serveLink_of_queue_nil k n _ (h k hr)
    | some r => exact serveLink_of_reply k n _ (by simp [hr])
  unfold serve
  dsimp only
  rw [hk .terminal, hk .authority]

/-- A quiet part is served no further. -/
theorem serve_of_quiet {s : State} (h : Quiet s) : serve s = s := by
  have e : settle s = s := h.1
  have := serve_eq_settle s (by rw [e]; exact h.2)
  rw [this, e]

/-- A terminal reply that stood while its transmitter was busy or its link DOWN stands after the transmitters' choice. -/
theorem settle_reply_term (s : State) (h : ¬ (s.term.state = .up ∧ s.term.tx = none)) : (settle s).term = s.term := by
  simp [settle, kickTerm, h]

/-- The same of the authority link. -/
theorem settle_reply_auth (s : State) (h : ¬ (s.auth.state = .up ∧ s.auth.tx = none)) : (settle s).auth = s.auth := by
  have : ¬ ((kickTerm (transmitLanes s)).auth.state = .up ∧ (kickTerm (transmitLanes s)).auth.tx = none) := by simpa using h
  unfold settle kickAuth
  rw [if_neg this]
  simp

/-- A request that arrives on an open link has its whole effect and its reply at once, and the transmitters choose (R164, R147). -/
theorem arriveRequest_open {k : Link} {q : QueuedRequest} {s : State} (h : OpenLink k s) :
    arriveRequest k q s =
      settle ((runRequest k q s).2.replied k
        { tag := q.tag, code := q.code, status := (runRequest k q s).1.1, result := (runRequest k q s).1.2 }) := by
  obtain ⟨⟨hset, hq⟩, hup, hrep⟩ := h
  have hqk := hq k hrep
  obtain ⟨_, hT, hA⟩ := (settle_eq_self_iff s).1 hset
  have e : arriveRequest k q s = serve (takeRequest k q s) := by
    unfold arriveRequest acceptRequest
    rw [if_pos hup, if_pos ⟨hrep, hqk⟩]
  rw [e, takeRequest_eq]
  apply serve_eq_settle
  intro j hj
  rw [settle_queue]
  cases k <;> cases j
  · rcases runRequest_link .terminal q s .terminal with hl | hl
    · simp only [State.link_terminal] at hl hqk ⊢
      simp [State.replied, State.modLink, hl, hqk]
    · simp only [State.link_terminal] at hl hqk ⊢
      simp [State.replied, State.modLink, hl, MgmtLink.restart]
  · rcases runRequest_link .terminal q s .authority with hl | hl
    · simp only [State.link_authority] at hl hj ⊢
      simp only [State.replied, State.modLink, hl] at hj ⊢
      by_cases hb : s.auth.state = .up ∧ s.auth.tx = none
      · exact hq .authority (reply_none_of_kickAuth hA hb.1 hb.2)
      · rw [settle_reply_auth] at hj
        · exact hq .authority (by simpa [State.modLink, hl] using hj)
        · simpa [hl] using hb
    · simp only [State.link_authority] at hl ⊢
      simp [State.replied, State.modLink, hl, MgmtLink.restart]
  · rcases runRequest_link .authority q s .terminal with hl | hl
    · simp only [State.link_terminal] at hl hj ⊢
      simp only [State.replied, State.modLink, hl] at hj ⊢
      by_cases hb : s.term.state = .up ∧ s.term.tx = none
      · exact hq .terminal (reply_none_of_kickTerm hT hb.1 hb.2)
      · rw [settle_reply_term] at hj
        · exact hq .terminal (by simpa [State.modLink, hl] using hj)
        · simpa [hl] using hb
    · simp only [State.link_terminal] at hl ⊢
      simp [State.replied, State.modLink, hl, MgmtLink.restart]
  · rcases runRequest_link .authority q s .authority with hl | hl
    · simp only [State.link_authority] at hl hqk ⊢
      simp [State.replied, State.modLink, hl, hqk]
    · simp only [State.link_authority] at hl hqk ⊢
      simp [State.replied, State.modLink, hl, MgmtLink.restart]

end Sys2Proof.Machine
end

