-- ==== Sys2Proof/Laws/Answers.lean ====
section
/-! SUPPORT. A request whose effect gives the transmitters nothing new is answered with exactly its effect and its reply. -/

namespace Sys2Proof.Machine

/-- A lane of a vector of lanes. -/
theorem State.lane_eq (s : State) (l : LaneId) : s.lane l = s.lanes[l.val] := rfl

/-- A lane after the transmitters have chosen. -/
theorem transmitLanes_lane (s : State) (l : LaneId) : (transmitLanes s).lane l = Lane.transmit s.profiles (s.lane l) := by
  simp [State.lane_eq, transmitLanes]

/-- A port that chose nothing with one sign-ACK timeout chooses nothing with another. -/
theorem Port.transmit_fixed {a : Nat} {p : Port} (h : p.transmit a = p) (b : Nat) : p.transmit b = p := by
  have := Port.transmit_transmit a b p
  rwa [h] at this

/-- The lane transmitters of a settled part, lane by lane. -/
theorem port_settled {s : State} (h : transmitLanes s = s) (l : LaneId) (a : Nat) :
    (s.lane l).port.transmit a = (s.lane l).port := by
  have h1 : (transmitLanes s).lane l = s.lane l := by rw [h]
  have h2 : (transmitLanes s).lane l = Lane.transmit s.profiles (s.lane l) := transmitLanes_lane s l
  have h3 : (Lane.transmit s.profiles (s.lane l)).port = (s.lane l).port := by rw [← h2, h1]
  exact Port.transmit_fixed h3 a

/-- The lane transmitters choose nothing where no port would. -/
theorem transmitLanes_of_ports {u : State} (h : ∀ (l : LaneId) (a : Nat), (u.lane l).port.transmit a = (u.lane l).port) :
    transmitLanes u = u := by
  have e : u.lanes.map (Lane.transmit u.profiles) = u.lanes := by
    apply Vector.ext
    intro i hi
    rw [Vector.getElem_map]
    have := h ⟨i, hi⟩ (u.profiles.get (u.lanes[i]).lcu.profile).signAck
    simp only [State.lane_eq] at this
    simp only [Lane.transmit, this]
  unfold transmitLanes
  rw [e]

/-- The lane transmitters choose nothing where every port is as in a settled part. -/
theorem transmitLanes_of_same {s u : State} (h : transmitLanes s = s) (hp : ∀ l : LaneId, (u.lane l).port = (s.lane l).port) :
    transmitLanes u = u :=
  transmitLanes_of_ports fun l a => by rw [hp l]; exact port_settled h l a

/-- The authority transmitter chooses nothing where its link and the attention-pending flag are as in a settled part. -/
theorem kickAuth_of_same {s u : State} (h : kickAuth s = s) (hl : u.auth = s.auth) (ha : u.attention = s.attention) :
    kickAuth u = u := by
  by_cases hf : s.auth.state = .up ∧ s.auth.tx = none
  · have hr := reply_none_of_kickAuth h hf.1 hf.2
    have hat : s.attention = false := by
      cases hb : s.attention with
      | false => rfl
      | true =>
        have := congrArg State.attention h
        simp [kickAuth, hf, hr, hb] at this
    simp [kickAuth, hl, ha, hr, hat]
  · simp only [kickAuth, hl, if_neg hf]

/-- What the terminal transmitter has when it is free and has chosen: no reply, no flag, no record. -/
theorem nothing_of_kickTerm {s : State} (h : kickTerm s = s) (hf : s.term.state = .up ∧ s.term.tx = none) :
    s.term.reply = none ∧ s.firstEvent = none ∧ s.records = [] := by
  have hr := reply_none_of_kickTerm h hf.1 hf.2
  have htx := congrArg (fun t : State => t.term.tx) h
  simp only [kickTerm, hf, and_self, if_true, hr] at htx
  refine ⟨hr, ?_⟩
  cases he : s.firstEvent with
  | some e =>
    cases hrec : s.records with
    | nil => simp [chooseTerm, he, hrec, sendEvent, beginTerm, clearEvent] at htx
    | cons r rs =>
      simp only [chooseTerm, he, hrec] at htx
      split at htx <;> simp [sendEvent, sendRecord, beginTerm, clearEvent] at htx
  | none =>
    cases hrec : s.records with
    | nil => exact ⟨rfl, rfl⟩
    | cons r rs => simp [chooseTerm, he, hrec, sendRecord, beginTerm] at htx

/-- The terminal transmitter chooses nothing where its link, the event flags and the records are as in a settled part. -/
theorem kickTerm_of_same {s u : State} (h : kickTerm s = s) (hl : u.term = s.term) (he : u.events = s.events)
    (hr : u.records = s.records) : kickTerm u = u := by
  unfold kickTerm
  split
  · next hf =>
    rw [hl] at hf
    obtain ⟨h1, h2, h3⟩ := nothing_of_kickTerm h hf
    have h4 : u.firstEvent = none := by
      rw [← h2]; simp only [State.firstEvent, State.eventFlag, he]
    simp [hl, h1, chooseTerm, h4, hr, h3]
  · rfl

/-- A terminal request after whose effect the lane transmitters choose nothing, and which changes no authority link and no attention
flag, is answered with exactly its effect. -/
theorem settle_replied_terminal_of_lanes {s u : State} (r : Reply) (h : OpenLink .terminal s) (hp : transmitLanes u = u)
    (hA : u.auth = s.auth) (ha : u.attention = s.attention) (ht : u.term = s.term) :
    settle (u.replied .terminal r) = u.answered .terminal r := by
  obtain ⟨⟨hset, _⟩, hup, hrep⟩ := h
  obtain ⟨_, _, hK⟩ := (settle_eq_self_iff s).1 hset
  simp only [State.link_terminal] at hup hrep
  have hup' : u.term.state = .up := by rw [ht]; exact hup
  have e1 : transmitLanes (u.replied .terminal r) = u.replied .terminal r := by
    have h1 := congrArg (fun x : State => x.replied .terminal r) hp
    exact h1
  have e2 : kickTerm (u.replied .terminal r) = u.answered .terminal r := by
    cases htx : u.term.tx with
    | none => simp [kickTerm, State.replied, State.modLink, State.answered, hup', htx]
    | some x => simp [kickTerm, State.replied, State.modLink, State.answered, htx]
  have e3 : kickAuth (u.answered .terminal r) = u.answered .terminal r := kickAuth_of_same hK hA ha
  simp only [settle, e1, e2, e3]

/-- A terminal request whose effect changes no port, no authority link and no attention flag is answered with exactly its effect. -/
theorem settle_replied_terminal {s u : State} (r : Reply) (h : OpenLink .terminal s)
    (hp : ∀ l : LaneId, (u.lane l).port = (s.lane l).port) (hA : u.auth = s.auth) (ha : u.attention = s.attention)
    (ht : u.term = s.term) : settle (u.replied .terminal r) = u.answered .terminal r :=
  settle_replied_terminal_of_lanes r h (transmitLanes_of_same ((settle_eq_self_iff s).1 h.1.1).1 hp) hA ha ht

/-- The sign-collision flag plays no part in what a port sends. -/
theorem Port.transmit_collision (a : Nat) (p : Port) (b : Bool) :
    ({ p with collision := b } : Port).transmit a = { p.transmit a with collision := b } := by
  unfold Port.transmit
  dsimp only
  repeat' split
  all_goals (first | rfl | simp_all [Port.send])

/-- An authority request whose effect changes no port, nothing the terminal transmitter sends and no attention flag is answered with
exactly its effect. -/
theorem settle_replied_authority {s u : State} (r : Reply) (h : OpenLink .authority s)
    (hp : ∀ l : LaneId, (u.lane l).port = (s.lane l).port) (hA : u.auth = s.auth) (ht : u.term = s.term)
    (he : u.events = s.events) (hr : u.records = s.records) :
    settle (u.replied .authority r) = u.answered .authority r := by
  obtain ⟨⟨hset, _⟩, hup, hrep⟩ := h
  obtain ⟨hL, hT, _⟩ := (settle_eq_self_iff s).1 hset
  simp only [State.link_authority] at hup hrep
  have hup' : u.auth.state = .up := by rw [hA]; exact hup
  have e1 : transmitLanes (u.replied .authority r) = u.replied .authority r := transmitLanes_of_same hL hp
  have e2 : kickTerm (u.replied .authority r) = u.replied .authority r := kickTerm_of_same hT ht he hr
  have e3 : kickAuth (u.replied .authority r) = u.answered .authority r := by
    cases htx : u.auth.tx with
    | none => simp [kickAuth, State.replied, State.modLink, State.answered, hup', htx]
    | some x => simp [kickAuth, State.replied, State.modLink, State.answered, htx]
  simp only [settle, e1, e2, e3]

end Sys2Proof.Machine
end

