-- ==== Sys2Proof/Laws/Aside.lean ====
section
/-! SUPPORT. What the commands of a lane leave as it is: what is loaded, the fault records of the other ports (`aside`), and, but for a
visit record or a bay that becomes free, the other lanes (`lanesBut`). One lemma per shared operation. -/

set_option linter.unusedSimpArgs false

namespace Sys2Proof.Machine

/-- What is loaded, and the fault records of every port but one. -/
def State.aside (p : PortId) (s : State) : Loaded × (PortId → Option FaultRecord) :=
  (s.loaded, fun q => if q = p then none else some (s.faults.get q))

/-- Every lane but one. -/
def State.lanesBut (l : LaneId) (s : State) : LaneId → Option Lane := fun m => if m = l then none else some (s.lane m)

/-! ### Base operations -/

/-- Steps that each keep what is aside keep it together. -/
theorem aside_foldl (q : PortId) {α : Type} (f : State → α → State) (h : ∀ s a, (f s a).aside q = s.aside q) :
    ∀ (xs : List α) (s : State), (xs.foldl f s).aside q = s.aside q
  | [], _ => rfl
  | a :: xs, s => (aside_foldl q f h xs (f s a)).trans (h s a)

/-- Steps that each keep the other lanes keep them together. -/
theorem lanesBut_foldl (l : LaneId) {α : Type} (f : State → α → State) (h : ∀ s a, (f s a).lanesBut l = s.lanesBut l) :
    ∀ (xs : List α) (s : State), (xs.foldl f s).lanesBut l = s.lanesBut l
  | [], _ => rfl
  | a :: xs, s => (lanesBut_foldl l f h xs (f s a)).trans (h s a)

/-- A step on a visit that keeps what is aside. -/
theorem onVisit_aside (q : PortId) (v : VisitIx) (f : Visit → State → State) (s : State)
    (h : ∀ x t, (f x t).aside q = t.aside q) : (onVisit v f s).aside q = s.aside q := by
  unfold onVisit; split
  · exact h _ _
  · rfl

/-- A step on a visit that keeps the other lanes. -/
theorem onVisit_lanesBut (l : LaneId) (v : VisitIx) (f : Visit → State → State) (s : State)
    (h : ∀ x t, (f x t).lanesBut l = t.lanesBut l) : (onVisit v f s).lanesBut l = s.lanesBut l := by
  unfold onVisit; split
  · exact h _ _
  · rfl

@[simp] theorem State.modLane_aside (s : State) (l : LaneId) (f : Lane → Lane) (q : PortId) : (s.modLane l f).aside q = s.aside q := rfl
@[simp] theorem State.modPort_aside (s : State) (l : LaneId) (f : Port → Port) (q : PortId) : (s.modPort l f).aside q = s.aside q := rfl
@[simp] theorem State.modLcu_aside (s : State) (l : LaneId) (f : Lcu → Lcu) (q : PortId) : (s.modLcu l f).aside q = s.aside q := rfl
@[simp] theorem State.modSweep_aside (s : State) (l : LaneId) (f : Sweep → Sweep) (q : PortId) : (s.modSweep l f).aside q = s.aside q := rfl
@[simp] theorem State.setVisit_aside (s : State) (v : VisitIx) (x : Option Visit) (q : PortId) : (s.setVisit v x).aside q = s.aside q := rfl
@[simp] theorem State.modVisit_aside (s : State) (v : VisitIx) (f : Visit → Visit) (q : PortId) : (s.modVisit v f).aside q = s.aside q := rfl
@[simp] theorem State.addReason_aside (s : State) (v : VisitIx) (r : Reason) (q : PortId) : (s.addReason v r).aside q = s.aside q := rfl
@[simp] theorem State.modEntry_aside (s : State) (v : VisitIx) (p : Position) (f : Carried → Carried) (q : PortId) :
    (s.modEntry v p f).aside q = s.aside q := rfl

/-- Counting a window's use changes nothing that is loaded of it. -/
@[simp] theorem State.modUsed_aside (s : State) (i : Nat) (f : Nat → Nat) (q : PortId) : (s.modUsed i f).aside q = s.aside q := by
  have h : (s.windows.setIfInBounds i ((s.window i).map fun w => { w with used := f w.used })).map (Option.map Window.loaded)
      = s.windows.map (Option.map Window.loaded) := by
    apply Vector.ext
    intro j hj
    rw [Vector.getElem_map, Vector.getElem_map, Vector.getElem_setIfInBounds hj]
    split
    · next e =>
      subst e
      unfold State.window
      rw [Vector.getElem?_eq_getElem hj]
      cases s.windows[i] <;> rfl
    · rfl
  unfold State.modUsed State.setWindow State.aside State.loaded
  simp only [h]

/-- A table changed at one index keeps what every entry keeps. -/
theorem Table.map_modify {α β : Type} (t : Table α) (i : Nat) (f : α → α) (g : Nat × α → β) (h : ∀ p, g (p.1, f p.2) = g p) :
    (Table.modify t i f).map g = t.map g := by
  unfold Table.modify
  rw [List.map_map]
  apply List.map_congr_left
  intro p _
  simp only [Function.comp]
  split
  · exact h p
  · rfl

/-- A table changed at some indices keeps what every entry keeps. -/
theorem Table.map_foldl_modify {α β : Type} (f : α → α) (g : Nat × α → β) (h : ∀ p, g (p.1, f p.2) = g p) :
    ∀ (ixs : List Nat) (t : Table α), (ixs.foldl (fun t i => Table.modify t i f) t).map g = t.map g
  | [], _ => rfl
  | i :: ixs, t => (Table.map_foldl_modify f g h ixs _).trans (Table.map_modify t i f g h)

/-- Bookings changed in nothing that is loaded of them. -/
theorem modBookings_aside (f : Booking → Booking) (h : ∀ b : Booking, (f b).loaded = b.loaded) (ixs : List Nat) (s : State)
    (q : PortId) : (modBookings f ixs s).aside q = s.aside q := by
  have e := Table.map_foldl_modify f (fun p : Nat × Booking => (p.1, p.2.loaded)) (fun p => by simp only [h]) ixs s.bookings
  unfold modBookings State.aside State.loaded
  simp only [e]

/-- Closure Table entries changed in nothing that is loaded of them. -/
theorem closures_aside (s : State) (t : Table ClosureEntry) (q : PortId)
    (h : t.map (fun p => (p.1, p.2.loaded)) = s.closures.map fun p => (p.1, p.2.loaded)) :
    State.aside q { s with closures := t } = s.aside q := by
  unfold State.aside State.loaded
  simp only [h]

/-- A fault noted on a port leaves the other ports' records. -/
@[simp] theorem noteFault_aside (p : PortId) (k : FaultKind) (frame : List Byte) (s : State) :
    (noteFault p k frame s).aside p = s.aside p := by
  have h : (s.modFault p (FaultRecord.note k frame)).aside p = s.aside p := by
    unfold State.modFault State.aside
    refine Prod.ext rfl (funext fun q => ?_)
    dsimp only
    split
    · rfl
    · next hq =>
      congr 1
      show (s.faults.set p.val _)[q.val] = s.faults[q.val]
      exact Vector.getElem_set_ne _ _ fun e => hq (Fin.ext e.symm)
  unfold noteFault
  dsimp only
  split
  · rw [← h]
    unfold raiseEvent
    split <;> rfl
  · exact h

@[simp] theorem noteFault_lanesBut (p : PortId) (k : FaultKind) (frame : List Byte) (s : State) (m : LaneId) :
    (noteFault p k frame s).lanesBut m = s.lanesBut m := by
  unfold noteFault raiseEvent
  dsimp only
  repeat' split
  all_goals rfl

/-- A lane changed leaves the other lanes. -/
@[simp] theorem State.modLane_lanesBut (s : State) (l : LaneId) (f : Lane → Lane) : (s.modLane l f).lanesBut l = s.lanesBut l := by
  unfold State.lanesBut
  funext m
  split
  · rfl
  · next h =>
    congr 1
    show (s.lanes.set l.val _)[m.val] = s.lanes[m.val]
    exact Vector.getElem_set_ne _ _ fun e => h (Fin.ext e.symm)

@[simp] theorem State.modPort_lanesBut (s : State) (l : LaneId) (f : Port → Port) : (s.modPort l f).lanesBut l = s.lanesBut l :=
  s.modLane_lanesBut l _
@[simp] theorem State.modLcu_lanesBut (s : State) (l : LaneId) (f : Lcu → Lcu) : (s.modLcu l f).lanesBut l = s.lanesBut l :=
  s.modLane_lanesBut l _
@[simp] theorem State.modSweep_lanesBut (s : State) (l : LaneId) (f : Sweep → Sweep) : (s.modSweep l f).lanesBut l = s.lanesBut l :=
  s.modLane_lanesBut l _
@[simp] theorem State.setVisit_lanesBut (s : State) (v : VisitIx) (x : Option Visit) (m : LaneId) :
    (s.setVisit v x).lanesBut m = s.lanesBut m := rfl
@[simp] theorem State.modVisit_lanesBut (s : State) (v : VisitIx) (f : Visit → Visit) (m : LaneId) :
    (s.modVisit v f).lanesBut m = s.lanesBut m := rfl
@[simp] theorem State.addReason_lanesBut (s : State) (v : VisitIx) (r : Reason) (m : LaneId) :
    (s.addReason v r).lanesBut m = s.lanesBut m := rfl
@[simp] theorem State.modEntry_lanesBut (s : State) (v : VisitIx) (p : Position) (f : Carried → Carried) (m : LaneId) :
    (s.modEntry v p f).lanesBut m = s.lanesBut m := rfl
@[simp] theorem State.modUsed_lanesBut (s : State) (i : Nat) (f : Nat → Nat) (m : LaneId) :
    (s.modUsed i f).lanesBut m = s.lanesBut m := rfl
@[simp] theorem modBookings_lanesBut (f : Booking → Booking) (ixs : List Nat) (s : State) (m : LaneId) :
    (modBookings f ixs s).lanesBut m = s.lanesBut m := rfl


/-! ### What is loaded and the other ports' records -/

@[simp] theorem raiseEvent_aside (k : EventKind) (src : PortId) (s : State) (q : PortId) : (raiseEvent k src s).aside q = s.aside q := by
  unfold raiseEvent
  try dsimp only
  repeat' split
  all_goals rfl

@[simp] theorem raiseAuthority_aside (flag : Nat) (s : State) (q : PortId) : (raiseAuthority flag s).aside q = s.aside q := by
  unfold raiseAuthority setAuthNotice
  rfl

@[simp] theorem produceShow_aside (l : LaneId) (w : Show) (s : State) (q : PortId) : (produceShow l w s).aside q = s.aside q := by
  unfold produceShow
  try dsimp only
  repeat' split
  all_goals try dsimp only
  all_goals first | (simp only [State.modLane_aside]; done) | (simp only [State.modLane_aside]; rfl) | rfl

@[simp] theorem raiseBarrier_aside (l : LaneId) (s : State) (q : PortId) : (raiseBarrier l s).aside q = s.aside q := by
  unfold raiseBarrier
  try dsimp only
  repeat' split
  all_goals try dsimp only
  all_goals first | (simp only [State.modLane_aside]; done) | (simp only [State.modLane_aside]; rfl) | rfl

@[simp] theorem lowerBarrier_aside (l : LaneId) (s : State) (q : PortId) : (lowerBarrier l s).aside q = s.aside q := by
  unfold lowerBarrier
  try dsimp only
  repeat' split
  all_goals try dsimp only
  all_goals first | (simp only [State.modLane_aside]; done) | (simp only [State.modLane_aside]; rfl) | rfl

@[simp] theorem produceSweep_aside (l : LaneId) (w : SweepFrame) (s : State) (q : PortId) : (produceSweep l w s).aside q = s.aside q := by
  unfold produceSweep
  try dsimp only
  repeat' split
  all_goals try dsimp only
  all_goals first | (simp only [State.modPort_aside]; done) | (simp only [State.modPort_aside]; rfl) | rfl

@[simp] theorem produceReread_aside (l : LaneId) (units : BitVec 8) (s : State) (q : PortId) : (produceReread l units s).aside q = s.aside q := by
  unfold produceReread
  try dsimp only
  repeat' split
  all_goals try dsimp only
  all_goals first | (simp only [State.modPort_aside]; done) | (simp only [State.modPort_aside]; rfl) | rfl

@[simp] theorem produceWake_aside (l : LaneId) (s : State) (q : PortId) : (produceWake l s).aside q = s.aside q := by
  unfold produceWake
  try dsimp only
  repeat' split
  all_goals try dsimp only
  all_goals first | (simp only [State.modPort_aside]; done) | (simp only [State.modPort_aside]; rfl) | rfl

@[simp] theorem waitText_aside (l : LaneId) (s : State) (q : PortId) : (waitText l s).aside q = s.aside q := by
  unfold waitText
  try dsimp only
  repeat' split
  all_goals try dsimp only
  all_goals first | (simp only [produceShow_aside]; done) | (simp only [produceShow_aside]; rfl) | rfl

@[simp] theorem setPendingFlag_aside (l : LaneId) (b : Bool) (s : State) (q : PortId) : (setPendingFlag l b s).aside q = s.aside q := by
  unfold setPendingFlag
  try dsimp only
  repeat' split
  all_goals try dsimp only
  all_goals first | (simp only [State.modLcu_aside]; done) | (simp only [State.modLcu_aside]; rfl) | rfl

@[simp] theorem showDirection_aside (l : LaneId) (s : State) (q : PortId) : (showDirection l s).aside q = s.aside q := by
  unfold showDirection
  try dsimp only
  repeat' split
  all_goals try dsimp only
  all_goals first | (simp only [produceShow_aside, raiseBarrier_aside, setPendingFlag_aside, State.modVisit_aside]; done) | (simp only [produceShow_aside, raiseBarrier_aside, setPendingFlag_aside, State.modVisit_aside]; rfl) | rfl

@[simp] theorem makePending_aside (l : LaneId) (s : State) (q : PortId) : (makePending l s).aside q = s.aside q := by
  unfold makePending
  try dsimp only
  repeat' split
  all_goals try dsimp only
  all_goals first | (simp only [setPendingFlag_aside, waitText_aside]; done) | (simp only [setPendingFlag_aside, waitText_aside]; rfl) | rfl

@[simp] theorem appendTrail_aside (c : TrailCause) (vd : Verdict) (x : Visit) (s : State) (q : PortId) : (appendTrail c vd x s).aside q = s.aside q := by
  unfold appendTrail
  try dsimp only
  repeat' split
  all_goals rfl

@[simp] theorem appendBound_aside (c : TrailCause) (vd : Verdict) (l : LaneId) (x : Visit) (s : State) (q : PortId) : (appendBound c vd l x s).aside q = s.aside q := by
  unfold appendBound
  try dsimp only
  repeat' split
  all_goals try dsimp only
  all_goals first | (simp only [appendTrail_aside, State.modLane_aside]; done) | (simp only [appendTrail_aside, State.modLane_aside]; rfl) | rfl

@[simp] theorem handMark_aside (l : LaneId) (m : TrailMark) (s : State) (q : PortId) : (handMark l m s).aside q = s.aside q := by
  unfold handMark
  try dsimp only
  repeat' split
  all_goals try dsimp only
  all_goals first | (simp only [State.modLane_aside]; done) | (simp only [State.modLane_aside]; rfl) | rfl

@[simp] theorem signAtHold_aside (l : LaneId) (s : State) (q : PortId) : (signAtHold l s).aside q = s.aside q := by
  unfold signAtHold
  try dsimp only
  repeat' split
  all_goals try dsimp only
  all_goals first | (simp only [waitText_aside, State.modLcu_aside]; done) | (simp only [waitText_aside, State.modLcu_aside]; rfl) | rfl

@[simp] theorem leaveParked_aside (l : LaneId) (s : State) (q : PortId) : (leaveParked l s).aside q = s.aside q := by
  unfold leaveParked
  try dsimp only
  repeat' split
  all_goals rfl

@[simp] theorem enterHold_aside (l : LaneId) (s : State) (q : PortId) : (enterHold l s).aside q = s.aside q := by
  unfold enterHold
  try dsimp only
  repeat' split
  all_goals try dsimp only
  all_goals first | (simp only [leaveParked_aside, raiseEvent_aside, signAtHold_aside]; done) | (simp only [leaveParked_aside, raiseEvent_aside, signAtHold_aside]; rfl) | rfl

@[simp] theorem putCause_aside (l : LaneId) (c : HoldCause) (s : State) (q : PortId) : (putCause l c s).aside q = s.aside q := by
  unfold putCause
  try dsimp only
  repeat' split
  all_goals try dsimp only
  all_goals first | (simp only [State.modLcu_aside, State.modVisit_aside]; done) | (simp only [State.modLcu_aside, State.modVisit_aside]; rfl) | rfl

@[simp] theorem addCause_aside (l : LaneId) (c : HoldCause) (s : State) (q : PortId) : (addCause l c s).aside q = s.aside q := by
  unfold addCause
  try dsimp only
  repeat' split
  all_goals try dsimp only
  all_goals first | (simp only [enterHold_aside, putCause_aside]; done) | (simp only [enterHold_aside, putCause_aside]; rfl) | rfl

@[simp] theorem recordLane_aside (l : LaneId) (k : FaultKind) (frame : List Byte) (s : State) : (recordLane l k frame s).aside (lanePort l) = s.aside (lanePort l) := by
  unfold recordLane
  try dsimp only
  repeat' split
  all_goals try dsimp only
  all_goals first | (simp only [addCause_aside, noteFault_aside]; done) | (simp only [addCause_aside, noteFault_aside]; rfl) | rfl

@[simp] theorem enterClosed_aside (l : LaneId) (s : State) (q : PortId) : (enterClosed l s).aside q = s.aside q := by
  unfold enterClosed
  try dsimp only
  repeat' split
  all_goals try dsimp only
  all_goals first | (simp only [leaveParked_aside, lowerBarrier_aside, produceShow_aside, raiseEvent_aside, State.modLane_aside, State.modPort_aside]; done) | (simp only [leaveParked_aside, lowerBarrier_aside, produceShow_aside, raiseEvent_aside, State.modLane_aside, State.modPort_aside]; rfl) | rfl

@[simp] theorem warmTest_aside (l : LaneId) (s : State) (q : PortId) : (warmTest l s).aside q = s.aside q := by
  unfold warmTest
  try dsimp only
  repeat' split
  all_goals try dsimp only
  all_goals first | (simp only [raiseEvent_aside, State.modLcu_aside]; done) | (simp only [raiseEvent_aside, State.modLcu_aside]; rfl) | rfl

@[simp] theorem addReady_aside (l : LaneId) (k : UnitKind) (s : State) (q : PortId) : (addReady l k s).aside q = s.aside q := by
  unfold addReady
  try dsimp only
  repeat' split
  all_goals try dsimp only
  all_goals first | (simp only [warmTest_aside, State.modLcu_aside]; done) | (simp only [warmTest_aside, State.modLcu_aside]; rfl) | rfl

@[simp] theorem auditStep_aside (l : LaneId) (s : State) (q : PortId) : (auditStep l s).aside q = s.aside q := by
  unfold auditStep
  try dsimp only
  repeat' split
  all_goals try dsimp only
  all_goals first | (simp only [addCause_aside, State.modLcu_aside]; done) | (simp only [addCause_aside, State.modLcu_aside]; rfl) | rfl

@[simp] theorem popHead_aside (l : LaneId) (s : State) (q : PortId) : (popHead l s).aside q = s.aside q := by
  unfold popHead
  try dsimp only
  repeat' split
  all_goals try dsimp only
  all_goals first | (simp only [State.modPort_aside]; done) | (simp only [State.modPort_aside]; rfl) | rfl

@[simp] theorem grant_aside (l : LaneId) (v : VisitIx) (load : LoadClass) (s : State) (q : PortId) : (grant l v load s).aside q = s.aside q := by
  unfold grant
  try dsimp only
  repeat' split
  all_goals try dsimp only
  all_goals first | (simp only [popHead_aside, State.modLcu_aside, State.setVisit_aside]; done) | (simp only [popHead_aside, State.modLcu_aside, State.setVisit_aside]; rfl) | rfl

@[simp] theorem park_aside (l : LaneId) (s : State) (q : PortId) : (park l s).aside q = s.aside q := by
  unfold park
  try dsimp only
  repeat' split
  all_goals try dsimp only
  all_goals first | (simp only [raiseEvent_aside, waitText_aside]; done) | (simp only [raiseEvent_aside, waitText_aside]; rfl) | rfl

@[simp] theorem grantParked_aside (v : VisitIx) (s : State) (q : PortId) : (grantParked v s).aside q = s.aside q := by
  unfold grantParked
  try dsimp only
  repeat' split
  all_goals try dsimp only
  all_goals first | (simp only [grant_aside]; done) | (simp only [grant_aside]; rfl) | rfl

@[simp] theorem takeBay_aside (v : VisitIx) (b : Nat) (s : State) (q : PortId) : (takeBay v b s).aside q = s.aside q := by
  unfold takeBay
  try dsimp only
  repeat' split
  all_goals try dsimp only
  all_goals first | (simp only [State.modVisit_aside]; done) | (simp only [State.modVisit_aside]; rfl) | rfl

@[simp] theorem setVisitState_aside (v : VisitIx) (st : VisitState) (s : State) (q : PortId) : (setVisitState v st s).aside q = s.aside q := by
  unfold setVisitState
  try dsimp only
  repeat' split
  all_goals try dsimp only
  all_goals first | (simp only [State.modVisit_aside]; done) | (simp only [State.modVisit_aside]; rfl) | rfl

@[simp] theorem joinBayWait_aside (l : LaneId) (v : VisitIx) (s : State) (q : PortId) : (joinBayWait l v s).aside q = s.aside q := by
  unfold joinBayWait
  try dsimp only
  repeat' split
  all_goals try dsimp only
  all_goals first | (simp only [raiseEvent_aside, setVisitState_aside, waitText_aside]; done) | (simp only [raiseEvent_aside, setVisitState_aside, waitText_aside]; rfl) | rfl

@[simp] theorem enterDirected_aside (l : LaneId) (v : VisitIx) (s : State) (q : PortId) : (enterDirected l v s).aside q = s.aside q := by
  unfold enterDirected
  try dsimp only
  repeat' split
  all_goals try dsimp only
  all_goals first | (simp only [makePending_aside, setVisitState_aside, showDirection_aside]; done) | (simp only [makePending_aside, setVisitState_aside, showDirection_aside]; rfl) | rfl

@[simp] theorem grantBays_aside (n : Nat) (s : State) (q : PortId) : (grantBays n s).aside q = s.aside q := by
  induction n generalizing s with
  | zero => rfl
  | succ n ih =>
    unfold grantBays
    split
    · dsimp only
      split
      · rw [ih, enterDirected_aside, takeBay_aside]; rfl
      · rw [ih, takeBay_aside]; rfl
    · rfl

@[simp] theorem grantFreeBays_aside (s : State) (q : PortId) : (grantFreeBays s).aside q = s.aside q := by
  unfold grantFreeBays
  try dsimp only
  repeat' split
  all_goals try dsimp only
  all_goals first | (simp only [grantBays_aside]; done) | (simp only [grantBays_aside]; rfl) | rfl

@[simp] theorem claimBay_aside (v : VisitIx) (s : State) (q : PortId) : (claimBay v s).2.aside q = s.aside q := by
  unfold claimBay
  try dsimp only
  repeat' split
  all_goals try dsimp only
  all_goals first | (simp only [takeBay_aside]; done) | (simp only [takeBay_aside]; rfl) | rfl

@[simp] theorem releaseBay_aside (v : VisitIx) (s : State) (q : PortId) : (releaseBay v s).aside q = s.aside q := by
  unfold releaseBay
  try dsimp only
  repeat' split
  all_goals try dsimp only
  all_goals first | (simp only [grantFreeBays_aside, State.modVisit_aside]; done) | (simp only [grantFreeBays_aside, State.modVisit_aside]; rfl) | rfl

@[simp] theorem leaveBayWait_aside (v : VisitIx) (s : State) (q : PortId) : (leaveBayWait v s).aside q = s.aside q := by
  unfold leaveBayWait
  try dsimp only
  repeat' split
  all_goals rfl

/-- Advancing, restoring and holding a booking change nothing that is loaded of it. -/
theorem Booking.advance_loaded (d : Dir) (b : Booking) : (b.advance d).loaded = b.loaded := by
  unfold Booking.advance; split <;> rfl
theorem Booking.restore_loaded (b : Booking) : b.restore.loaded = b.loaded := by
  unfold Booking.restore; split <;> rfl

@[simp] theorem advanceBookings_aside (x : Visit) (s : State) (q : PortId) : (advanceBookings x s).aside q = s.aside q := modBookings_aside _ (Booking.advance_loaded _) _ _ _

@[simp] theorem restoreBookings_aside (x : Visit) (s : State) (q : PortId) : (restoreBookings x s).aside q = s.aside q := modBookings_aside _ Booking.restore_loaded _ _ _

@[simp] theorem releasePins_aside (x : Visit) (s : State) (q : PortId) : (releasePins x s).aside q = s.aside q := closures_aside _ _ _ (Table.map_foldl_modify _ _ (fun _ => rfl) _ _)

@[simp] theorem pushRecord_aside (r : GateRecord) (s : State) (q : PortId) : (pushRecord r s).aside q = s.aside q := by
  unfold pushRecord
  try dsimp only
  repeat' split
  all_goals rfl

@[simp] theorem freeVisit_aside (v : VisitIx) (s : State) (q : PortId) : (freeVisit v s).aside q = s.aside q := by
  unfold freeVisit
  try dsimp only
  repeat' split
  all_goals try dsimp only
  all_goals first | (simp only [grantParked_aside, State.setVisit_aside]; done) | (simp only [grantParked_aside, State.setVisit_aside]; rfl) | rfl

@[simp] theorem closeVisit_aside (v : VisitIx) (o : CloseOutcome) (s : State) (q : PortId) : (closeVisit v o s).aside q = s.aside q := by
  unfold closeVisit
  try dsimp only
  repeat' split
  all_goals try dsimp only
  all_goals first | (simp only [freeVisit_aside, pushRecord_aside, State.modVisit_aside]; done) | (simp only [freeVisit_aside, pushRecord_aside, State.modVisit_aside]; rfl) | rfl

@[simp] theorem placeClosing_aside (s : State) (q : PortId) : (placeClosing s).aside q = s.aside q := by
  unfold placeClosing
  try dsimp only
  repeat' split
  all_goals try dsimp only
  all_goals first | (simp only [freeVisit_aside, pushRecord_aside]; done) | (simp only [freeVisit_aside, pushRecord_aside]; rfl) | rfl

@[simp] theorem resolvedNotice_aside (x : Visit) (s : State) (q : PortId) : (resolvedNotice x s).aside q = s.aside q := by
  unfold resolvedNotice
  try dsimp only
  repeat' split
  all_goals try dsimp only
  all_goals first | (simp only [raiseAuthority_aside]; done) | (simp only [raiseAuthority_aside]; rfl) | rfl

@[simp] theorem releaseLane_aside (l : LaneId) (v : VisitIx) (s : State) (q : PortId) : (releaseLane l v s).aside q = s.aside q := by
  unfold releaseLane
  try dsimp only
  repeat' split
  all_goals try dsimp only
  all_goals first | (simp only [State.modLane_aside, State.modVisit_aside]; done) | (simp only [State.modLane_aside, State.modVisit_aside]; rfl) | rfl

@[simp] theorem drainRelease_aside (l : LaneId) (s : State) (q : PortId) : (drainRelease l s).aside q = s.aside q := by
  unfold drainRelease
  try dsimp only
  repeat' split
  all_goals try dsimp only
  all_goals first | (simp only [enterClosed_aside, raiseEvent_aside, State.modLcu_aside]; done) | (simp only [enterClosed_aside, raiseEvent_aside, State.modLcu_aside]; rfl) | rfl

@[simp] theorem gateReasons_aside (v : VisitIx) (threshold : Nat) (e : Carried) (s : State) (q : PortId) : (gateReasons v threshold e s).aside q = s.aside q := by
  unfold gateReasons
  try dsimp only
  repeat' split
  all_goals try dsimp only
  all_goals first | (simp only [State.addReason_aside]; done) | (simp only [State.addReason_aside]; rfl) | rfl

@[simp] theorem matchEntry_aside (v : VisitIx) (x : Visit) (e : Carried) (s : State) (q : PortId) : (matchEntry v x e s).aside q = s.aside q := by
  unfold matchEntry
  dsimp only
  split
  · split
    · rw [State.modEntry_aside]
      exact modBookings_aside (Booking.hold x.number) (fun _ => rfl) _ _ _
    · rfl
  · split <;> rfl

@[simp] theorem matchCarried_aside (v : VisitIx) (threshold : Nat) (x : Visit) (s : State) (q : PortId) : (matchCarried v threshold x s).aside q = s.aside q := by
  unfold matchCarried
  dsimp only
  rw [aside_foldl q _ (fun s e => by simp only [matchEntry_aside]), aside_foldl q _ (fun s e => by simp only [gateReasons_aside])]

@[simp] theorem matchCard_aside (v : VisitIx) (x : Visit) (s : State) (q : PortId) : (matchCard v x s).aside q = s.aside q := by
  have h : ∀ ixs : List Nat, (modBookings (Booking.hold x.number) ixs s).aside q = s.aside q :=
    fun ixs => modBookings_aside (Booking.hold x.number) (fun _ => rfl) ixs s q
  unfold matchCard
  dsimp only
  split
  · split
    · rw [State.addReason_aside, State.modVisit_aside, h]
    · rw [State.modVisit_aside, h]
  · split
    · rw [State.addReason_aside, State.modVisit_aside, h]
    · rw [State.modVisit_aside, h]

@[simp] theorem checkPlate_aside (v : VisitIx) (threshold : Nat) (x : Visit) (s : State) (q : PortId) : (checkPlate v threshold x s).aside q = s.aside q := by
  unfold checkPlate
  try dsimp only
  repeat' split
  all_goals try dsimp only
  all_goals first | (simp only [State.addReason_aside]; done) | (simp only [State.addReason_aside]; rfl) | rfl

@[simp] theorem checkCard_aside (v : VisitIx) (x : Visit) (s : State) (q : PortId) : (checkCard v x s).aside q = s.aside q := by
  unfold checkCard
  try dsimp only
  repeat' split
  all_goals try dsimp only
  all_goals first | (simp only [State.addReason_aside]; done) | (simp only [State.addReason_aside]; rfl) | rfl

@[simp] theorem reslot_aside (v : VisitIx) (i : Nat) (b : Booking) (p : Option Position) (s : State) (q : PortId) : (reslot v i b p s).aside q = s.aside q := by
  have h : ∀ (c : Nat) (ixs : List Nat) (t : State), (modBookings (fun y => { y with window := c }) ixs t).aside q = t.aside q :=
    fun c ixs t => modBookings_aside (fun y => { y with window := c }) (fun _ => rfl) ixs t q
  unfold reslot
  split
  · split
    · split
      · dsimp only
        split
        · rw [State.modEntry_aside, State.addReason_aside, h, State.modUsed_aside, State.modUsed_aside]
        · rw [State.addReason_aside, h, State.modUsed_aside, State.modUsed_aside]
      · rfl
    · rfl
  · rfl

@[simp] theorem judgeWindow_aside (v : VisitIx) (a : Nat) (i : Nat) (p : Option Position) (s : State) (q : PortId) : (judgeWindow v a i p s).aside q = s.aside q := by
  unfold judgeWindow
  try dsimp only
  repeat' split
  all_goals try dsimp only
  all_goals first | (simp only [reslot_aside, State.addReason_aside]; done) | (simp only [reslot_aside, State.addReason_aside]; rfl) | rfl

@[simp] theorem checkWindows_aside (v : VisitIx) (x : Visit) (s : State) (q : PortId) : (checkWindows v x s).aside q = s.aside q := by
  unfold checkWindows
  split
  · rfl
  · split
    · exact aside_foldl q _ (fun s (p : Nat × Option Position) => by simp only [judgeWindow_aside]) _ _
    · split <;> rfl

@[simp] theorem admissionLookup_aside (l : LaneId) (v : VisitIx) (s : State) (q : PortId) : (admissionLookup l v s).aside q = s.aside q := by
  unfold admissionLookup
  dsimp only
  rw [onVisit_aside q _ _ _ (fun x t => by simp only [checkWindows_aside]), onVisit_aside q _ _ _ (fun x t => by simp only [checkCard_aside]),
    onVisit_aside q _ _ _ (fun x t => by simp only [checkPlate_aside]), onVisit_aside q _ _ _ (fun x t => by simp only [matchCard_aside]),
    onVisit_aside q _ _ _ (fun x t => by simp only [matchCarried_aside])]

@[simp] theorem setClosure_aside (v : VisitIx) (p : Position) (o : ClosureOutcome) (s : State) (q : PortId) : (setClosure v p o s).aside q = s.aside q := by
  unfold setClosure
  try dsimp only
  repeat' split
  all_goals try dsimp only
  all_goals first | (simp only [State.addReason_aside, State.modEntry_aside]; done) | (simp only [State.addReason_aside, State.modEntry_aside]; rfl) | rfl

@[simp] theorem touchRecency_aside (i : Nat) (s : State) (q : PortId) : (touchRecency i s).aside q = s.aside q := by
  unfold touchRecency
  try dsimp only
  repeat' split
  all_goals rfl

@[simp] theorem takePin_aside (v : VisitIx) (p : Position) (i : Nat) (s : State) (q : PortId) : (takePin v p i s).aside q = s.aside q := by
  unfold takePin
  rw [State.modEntry_aside]
  exact closures_aside _ _ _ (Table.map_modify _ _ _ _ fun _ => rfl)

@[simp] theorem startClosure_aside (l : LaneId) (v : VisitIx) (e : Carried) (s : State) (q : PortId) : (startClosure l v e s).aside q = s.aside q := by
  unfold startClosure
  try dsimp only
  repeat' split
  all_goals try dsimp only
  all_goals first | (simp only [raiseEvent_aside, setClosure_aside, takePin_aside, touchRecency_aside]; done) | (simp only [raiseEvent_aside, setClosure_aside, takePin_aside, touchRecency_aside]; rfl) | rfl

@[simp] theorem startClosures_aside (l : LaneId) (v : VisitIx) (s : State) (q : PortId) : (startClosures l v s).aside q = s.aside q := by
  unfold startClosures
  exact onVisit_aside q _ _ _ fun x t => aside_foldl q _ (fun s e => by simp only [startClosure_aside]) _ _

@[simp] theorem evaluateRead_aside (v : VisitIx) (e : Carried) (r : ClosureRead) (s : State) (q : PortId) : (evaluateRead v e r s).aside q = s.aside q := by
  unfold evaluateRead
  try dsimp only
  repeat' split
  all_goals try dsimp only
  all_goals first | (simp only [setClosure_aside]; done) | (simp only [setClosure_aside]; rfl) | rfl

@[simp] theorem expireClosure_aside (v : VisitIx) (e : Carried) (s : State) (q : PortId) : (expireClosure v e s).aside q = s.aside q := by
  unfold expireClosure
  try dsimp only
  repeat' split
  all_goals try dsimp only
  all_goals first | (simp only [setClosure_aside]; done) | (simp only [setClosure_aside]; rfl) | rfl

@[simp] theorem markNotSwept_aside (v : VisitIx) (s : State) (q : PortId) : (markNotSwept v s).aside q = s.aside q := by
  unfold markNotSwept
  try dsimp only
  repeat' split
  all_goals try dsimp only
  all_goals first | (simp only [State.modVisit_aside]; done) | (simp only [State.modVisit_aside]; rfl) | rfl

@[simp] theorem startSweep_aside (l : LaneId) (v : VisitIx) (x : Visit) (s : State) (q : PortId) : (startSweep l v x s).aside q = s.aside q := by
  unfold startSweep
  dsimp only
  split
  · rw [markNotSwept_aside]
  · rw [produceSweep_aside]; rfl

@[simp] theorem stopSweep_aside (l : LaneId) (s : State) (q : PortId) : (stopSweep l s).aside q = s.aside q := by
  unfold stopSweep
  try dsimp only
  repeat' split
  all_goals try dsimp only
  all_goals first | (simp only [produceSweep_aside, State.modSweep_aside]; done) | (simp only [produceSweep_aside, State.modSweep_aside]; rfl) | rfl

@[simp] theorem settleSwept_aside (l : LaneId) (v : VisitIx) (o : DamageOutcome) (s : State) (q : PortId) : (settleSwept l v o s).aside q = s.aside q := by
  unfold settleSwept
  try dsimp only
  repeat' split
  all_goals try dsimp only
  all_goals first | (simp only [State.modVisit_aside]; done) | (simp only [State.modVisit_aside]; rfl) | rfl

@[simp] theorem fireMinor_aside (v : VisitIx) (p : Position) (s : State) (q : PortId) : (fireMinor v p s).aside q = s.aside q := by
  unfold fireMinor onVisit
  try dsimp only
  repeat' split
  all_goals try dsimp only
  all_goals first | (simp only [State.addReason_aside, State.modEntry_aside]; done) | (simp only [State.addReason_aside, State.modEntry_aside]; rfl) | rfl

@[simp] theorem fireSurvey_aside (v : VisitIx) (p : Position) (s : State) (q : PortId) : (fireSurvey v p s).aside q = s.aside q := by
  unfold fireSurvey
  try dsimp only
  repeat' split
  all_goals try dsimp only
  all_goals first | (simp only [State.addReason_aside, State.modEntry_aside]; done) | (simp only [State.addReason_aside, State.modEntry_aside]; rfl) | rfl

@[simp] theorem fireRule_aside (l : LaneId) (v : VisitIx) (i : Fin 16) (p : Position) (a : RuleAction) (s : State) (q : PortId) : (fireRule l v i p a s).aside q = s.aside q := by
  unfold fireRule
  try dsimp only
  repeat' split
  all_goals try dsimp only
  all_goals first | (simp only [addCause_aside, fireMinor_aside, fireSurvey_aside, State.modEntry_aside]; done) | (simp only [addCause_aside, fireMinor_aside, fireSurvey_aside, State.modEntry_aside]; rfl) | rfl

@[simp] theorem modStates_aside (l : LaneId) (f : MatchState → MatchState) (s : State) (q : PortId) : (modStates l f s).aside q = s.aside q := by
  unfold modStates
  try dsimp only
  repeat' split
  all_goals try dsimp only
  all_goals first | (simp only [State.modSweep_aside]; done) | (simp only [State.modSweep_aside]; rfl) | rfl

@[simp] theorem judgeRule_aside (l : LaneId) (v : VisitIx) (f : Finding) (s : State) (i : Fin 16) (q : PortId) : (judgeRule l v f s i).aside q = s.aside q := by
  unfold judgeRule
  try dsimp only
  repeat' split
  all_goals try dsimp only
  all_goals first | (simp only [fireRule_aside, modStates_aside]; done) | (simp only [fireRule_aside, modStates_aside]; rfl) | rfl

@[simp] theorem judgeFinding_aside (l : LaneId) (v : VisitIx) (f : Finding) (s : State) (q : PortId) : (judgeFinding l v f s).aside q = s.aside q := by
  unfold judgeFinding
  exact aside_foldl q _ (fun s i => by simp only [judgeRule_aside]) _ _

@[simp] theorem applyFinding_aside (l : LaneId) (f : Finding) (s : State) (q : PortId) : (applyFinding l f s).aside q = s.aside q := by
  unfold applyFinding
  dsimp only
  split
  · rw [judgeFinding_aside]; rfl
  · rfl

@[simp] theorem endSweep_aside (l : LaneId) (st : SweepStatus) (count : Nat) (s : State) (q : PortId) : (endSweep l st count s).aside q = s.aside q := by
  unfold endSweep
  try dsimp only
  repeat' split
  all_goals try dsimp only
  all_goals first | (simp only [settleSwept_aside, State.addReason_aside, State.modSweep_aside]; done) | (simp only [settleSwept_aside, State.addReason_aside, State.modSweep_aside]; rfl) | rfl

@[simp] theorem writeVerdict_aside (l : LaneId) (v : VisitIx) (vd : Verdict) (s : State) (q : PortId) : (writeVerdict l v vd s).aside q = s.aside q := by
  unfold writeVerdict
  try dsimp only
  repeat' split
  all_goals try dsimp only
  all_goals first | (simp only [State.modVisit_aside]; done) | (simp only [State.modVisit_aside]; rfl) | rfl

@[simp] theorem placeVisit_aside (l : LaneId) (v : VisitIx) (vd : Verdict) (s : State) (q : PortId) : (placeVisit l v vd s).aside q = s.aside q := by
  unfold placeVisit
  split
  · rw [enterDirected_aside, auditStep_aside]
  · have h := claimBay_aside v s q
    split
    · next t e => rw [enterDirected_aside, ← h, e]
    · next t e => rw [joinBayWait_aside, ← h, e]
  · rw [enterDirected_aside]

@[simp] theorem composeVerdict_aside (l : LaneId) (v : VisitIx) (s : State) (q : PortId) : (composeVerdict l v s).aside q = s.aside q := by
  unfold composeVerdict
  exact onVisit_aside q _ _ _ fun x t => by simp only [placeVisit_aside, appendBound_aside, writeVerdict_aside]

@[simp] theorem stopT0_aside (l : LaneId) (s : State) (q : PortId) : (stopT0 l s).aside q = s.aside q := by
  unfold stopT0
  try dsimp only
  repeat' split
  all_goals try dsimp only
  all_goals first | (simp only [State.modLcu_aside]; done) | (simp only [State.modLcu_aside]; rfl) | rfl

@[simp] theorem startT0_aside (l : LaneId) (k : WindowKind) (s : State) (q : PortId) : (startT0 l k s).aside q = s.aside q := by
  unfold startT0
  try dsimp only
  repeat' split
  all_goals try dsimp only
  all_goals first | (simp only [State.modLcu_aside]; done) | (simp only [State.modLcu_aside]; rfl) | rfl

@[simp] theorem completionTest_aside (l : LaneId) (v : VisitIx) (s : State) (q : PortId) : (completionTest l v s).aside q = s.aside q := by
  unfold completionTest
  exact onVisit_aside q _ _ _ fun x t => by
    split
    · simp only [composeVerdict_aside, stopT0_aside]
    · rfl

@[simp] theorem testBound_aside (l : LaneId) (s : State) (q : PortId) : (testBound l s).aside q = s.aside q := by
  unfold testBound
  try dsimp only
  repeat' split
  all_goals try dsimp only
  all_goals first | (simp only [completionTest_aside]; done) | (simp only [completionTest_aside]; rfl) | rfl

@[simp] theorem holdListCheck_aside (v : VisitIx) (x : Visit) (s : State) (q : PortId) : (holdListCheck v x s).aside q = s.aside q := by
  unfold holdListCheck
  try dsimp only
  repeat' split
  all_goals try dsimp only
  all_goals first | (simp only [raiseAuthority_aside, State.addReason_aside, State.modVisit_aside]; done) | (simp only [raiseAuthority_aside, State.addReason_aside, State.modVisit_aside]; rfl) | rfl

@[simp] theorem enterChecking_aside (l : LaneId) (v : VisitIx) (s : State) (q : PortId) : (enterChecking l v s).aside q = s.aside q := by
  unfold enterChecking
  dsimp only
  rw [completionTest_aside, startT0_aside, onVisit_aside q _ _ _ (fun x t => by simp only [startSweep_aside]), startClosures_aside,
    onVisit_aside q _ _ _ (fun x t => by simp only [holdListCheck_aside]), admissionLookup_aside, setVisitState_aside]

@[simp] theorem identityTest_aside (l : LaneId) (v : VisitIx) (s : State) (q : PortId) : (identityTest l v s).aside q = s.aside q := by
  unfold identityTest
  exact onVisit_aside q _ _ _ fun x t => by
    split
    · rw [enterChecking_aside]
    · rfl

@[simp] theorem readWindowRunsOut_aside (l : LaneId) (v : VisitIx) (x : Visit) (s : State) (q : PortId) : (readWindowRunsOut l v x s).aside q = s.aside q := by
  unfold readWindowRunsOut
  try dsimp only
  repeat' split
  all_goals try dsimp only
  all_goals first | (simp only [enterChecking_aside, produceReread_aside, startT0_aside, State.addReason_aside, State.modVisit_aside]; done) | (simp only [enterChecking_aside, produceReread_aside, startT0_aside, State.addReason_aside, State.modVisit_aside]; rfl) | rfl

@[simp] theorem expireRead_aside (l : LaneId) (s : State) (q : PortId) : (expireRead l s).aside q = s.aside q := by
  unfold expireRead
  try dsimp only
  repeat' split
  all_goals try dsimp only
  all_goals first | (simp only [readWindowRunsOut_aside, stopT0_aside]; done) | (simp only [readWindowRunsOut_aside, stopT0_aside]; rfl) | rfl

@[simp] theorem expireSweep_aside (l : LaneId) (v : VisitIx) (s : State) (q : PortId) : (expireSweep l v s).aside q = s.aside q := by
  unfold expireSweep
  try dsimp only
  repeat' split
  all_goals try dsimp only
  all_goals first | (simp only [settleSwept_aside, stopSweep_aside, State.addReason_aside]; done) | (simp only [settleSwept_aside, stopSweep_aside, State.addReason_aside]; rfl) | rfl

@[simp] theorem expireCheck_aside (l : LaneId) (s : State) (q : PortId) : (expireCheck l s).aside q = s.aside q := by
  unfold expireCheck
  split
  · dsimp only
    split
    · split
      · rw [composeVerdict_aside, expireSweep_aside, aside_foldl q _ (fun s e => by simp only [expireClosure_aside]), stopT0_aside]
      · rw [stopT0_aside]
    · rw [stopT0_aside]
  · rfl

@[simp] theorem unexpected_aside (l : LaneId) (f : LaneFrame) (s : State) : (unexpected l f s).aside (lanePort l) = s.aside (lanePort l) := by
  unfold unexpected
  try dsimp only
  repeat' split
  all_goals try dsimp only
  all_goals first | (simp only [popHead_aside, recordLane_aside]; done) | (simp only [popHead_aside, recordLane_aside]; rfl) | rfl

@[simp] theorem arriveApplied_aside (l : LaneId) (f : LaneFrame) (load : LoadClass) (s : State) : (arriveApplied l f load s).aside (lanePort l) = s.aside (lanePort l) := by
  unfold arriveApplied
  try dsimp only
  repeat' split
  all_goals try dsimp only
  all_goals first | (simp only [grant_aside, park_aside, unexpected_aside]; done) | (simp only [grant_aside, park_aside, unexpected_aside]; rfl) | rfl

/-- A read taken in IDENTIFYING, where taking it keeps the rest. -/
theorem inIdentifying_aside (l : LaneId) (f : LaneFrame) (k : VisitIx → Visit → State → State) (s : State)
    (h : ∀ v x t, (k v x t).aside (lanePort l) = t.aside (lanePort l)) : (inIdentifying l f k s).aside (lanePort l) = s.aside (lanePort l) := by
  unfold inIdentifying
  split
  · split
    · rw [identityTest_aside, h, popHead_aside]
    · rw [unexpected_aside]
  · rw [unexpected_aside]

@[simp] theorem plateApplied_aside (l : LaneId) (f : LaneFrame) (conf : Nat) (t : Text) (s : State) : (plateApplied l f conf t s).aside (lanePort l) = s.aside (lanePort l) := by
  unfold plateApplied
  exact inIdentifying_aside _ _ _ _ fun v x t => rfl

@[simp] theorem cardApplied_aside (l : LaneId) (f : LaneFrame) (t : Text) (s : State) : (cardApplied l f t s).aside (lanePort l) = s.aside (lanePort l) := by
  unfold cardApplied
  exact inIdentifying_aside _ _ _ _ fun v x t => rfl

@[simp] theorem takeCode_aside (l : LaneId) (v : VisitIx) (p : Position) (conf : Nat) (c : Text) (x : Visit) (s : State) (q : PortId) : (takeCode l v p conf c x s).aside q = s.aside q := by
  unfold takeCode
  try dsimp only
  repeat' split
  all_goals try dsimp only
  all_goals first | (simp only [State.addReason_aside, State.modEntry_aside, State.modVisit_aside]; done) | (simp only [State.addReason_aside, State.modEntry_aside, State.modVisit_aside]; rfl) | rfl

@[simp] theorem codeApplied_aside (l : LaneId) (f : LaneFrame) (p : Position) (conf : Nat) (c : Text) (s : State) : (codeApplied l f p conf c s).aside (lanePort l) = s.aside (lanePort l) := by
  unfold codeApplied
  exact inIdentifying_aside _ _ _ _ fun v x t => by simp only [takeCode_aside]

@[simp] theorem keepRead_aside (v : VisitIx) (p : Position) (r : ClosureRead) (s : State) (q : PortId) : (keepRead v p r s).aside q = s.aside q := by
  unfold keepRead
  try dsimp only
  repeat' split
  all_goals try dsimp only
  all_goals first | (simp only [State.modEntry_aside]; done) | (simp only [State.modEntry_aside]; rfl) | rfl

@[simp] theorem closureApplied_aside (l : LaneId) (f : LaneFrame) (p : Position) (r : ClosureRead) (s : State) : (closureApplied l f p r s).aside (lanePort l) = s.aside (lanePort l) := by
  unfold closureApplied
  try dsimp only
  repeat' split
  all_goals try dsimp only
  all_goals first | (simp only [completionTest_aside, evaluateRead_aside, keepRead_aside, popHead_aside, unexpected_aside]; done) | (simp only [completionTest_aside, evaluateRead_aside, keepRead_aside, popHead_aside, unexpected_aside]; rfl) | rfl

@[simp] theorem findApplied_aside (l : LaneId) (f : LaneFrame) (n : BitVec 16) (g : Finding) (s : State) : (findApplied l f n g s).aside (lanePort l) = s.aside (lanePort l) := by
  unfold findApplied
  try dsimp only
  repeat' split
  all_goals try dsimp only
  all_goals first | (simp only [applyFinding_aside, popHead_aside, recordLane_aside, testBound_aside, unexpected_aside]; done) | (simp only [applyFinding_aside, popHead_aside, recordLane_aside, testBound_aside, unexpected_aside]; rfl) | rfl

@[simp] theorem sweepEndApplied_aside (l : LaneId) (f : LaneFrame) (n : BitVec 16) (st : SweepStatus) (count : Nat) (s : State) : (sweepEndApplied l f n st count s).aside (lanePort l) = s.aside (lanePort l) := by
  unfold sweepEndApplied
  try dsimp only
  repeat' split
  all_goals try dsimp only
  all_goals first | (simp only [endSweep_aside, popHead_aside, recordLane_aside, testBound_aside, unexpected_aside]; done) | (simp only [endSweep_aside, popHead_aside, recordLane_aside, testBound_aside, unexpected_aside]; rfl) | rfl

@[simp] theorem clearBarrier_aside (l : LaneId) (v : VisitIx) (s : State) (q : PortId) : (clearBarrier l v s).aside q = s.aside q := by
  unfold clearBarrier
  try dsimp only
  repeat' split
  all_goals try dsimp only
  all_goals first | (simp only [lowerBarrier_aside, State.modLcu_aside, State.modVisit_aside]; done) | (simp only [lowerBarrier_aside, State.modLcu_aside, State.modVisit_aside]; rfl) | rfl

@[simp] theorem settleClear_aside (v : VisitIx) (x : Visit) (s : State) (q : PortId) : (settleClear v x s).aside q = s.aside q := by
  unfold settleClear
  try dsimp only
  repeat' split
  all_goals try dsimp only
  all_goals first | (simp only [advanceBookings_aside, closeVisit_aside, releasePins_aside, restoreBookings_aside, setVisitState_aside]; done) | (simp only [advanceBookings_aside, closeVisit_aside, releasePins_aside, restoreBookings_aside, setVisitState_aside]; rfl) | rfl

@[simp] theorem clearApplied_aside (l : LaneId) (f : LaneFrame) (s : State) : (clearApplied l f s).aside (lanePort l) = s.aside (lanePort l) := by
  unfold clearApplied
  try dsimp only
  repeat' split
  all_goals try dsimp only
  all_goals first | (simp only [clearBarrier_aside, drainRelease_aside, popHead_aside, releaseLane_aside, settleClear_aside, unexpected_aside]; done) | (simp only [clearBarrier_aside, drainRelease_aside, popHead_aside, releaseLane_aside, settleClear_aside, unexpected_aside]; rfl) | rfl

@[simp] theorem applyFrame_aside (l : LaneId) (f : LaneFrame) (c : InFrame) (s : State) : (applyFrame l f c s).aside (lanePort l) = s.aside (lanePort l) := by
  unfold applyFrame
  try dsimp only
  repeat' split
  all_goals try dsimp only
  all_goals first | (simp only [arriveApplied_aside, cardApplied_aside, clearApplied_aside, closureApplied_aside, codeApplied_aside, findApplied_aside, plateApplied_aside, sweepEndApplied_aside]; done) | (simp only [arriveApplied_aside, cardApplied_aside, clearApplied_aside, closureApplied_aside, codeApplied_aside, findApplied_aside, plateApplied_aside, sweepEndApplied_aside]; rfl) | rfl

@[simp] theorem applyHead_aside (l : LaneId) (isClass : InFrame → Bool) (s : State) : (applyHead l isClass s).aside (lanePort l) = s.aside (lanePort l) := by
  unfold applyHead
  try dsimp only
  repeat' split
  all_goals try dsimp only
  all_goals first | (simp only [applyFrame_aside]; done) | (simp only [applyFrame_aside]; rfl) | rfl

/-- The lane transmitters leave everything the aside keeps. -/
@[simp] theorem transmitLanes_aside (s : State) (q : PortId) : (transmitLanes s).aside q = s.aside q := rfl

@[simp] theorem applyHeads_aside (l : LaneId) (n : Nat) (s : State) : (applyHeads l n s).aside (lanePort l) = s.aside (lanePort l) := by
  induction n generalizing s with
  | zero => rfl
  | succ n ih =>
    unfold applyHeads
    split
    · split
      · rw [ih, transmitLanes_aside, applyFrame_aside]
      · rfl
    · rfl

@[simp] theorem enterMode_aside (l : LaneId) (m : LaneMode) (target : Option LaneMode) (s : State) (q : PortId) : (enterMode l m target s).aside q = s.aside q := by
  unfold enterMode
  try dsimp only
  repeat' split
  all_goals try dsimp only
  all_goals first | (simp only [raiseEvent_aside, State.modLcu_aside]; done) | (simp only [raiseEvent_aside, State.modLcu_aside]; rfl) | rfl

@[simp] theorem startWarming_aside (l : LaneId) (d : Dir) (s : State) (q : PortId) : (startWarming l d s).aside q = s.aside q := by
  unfold startWarming
  try dsimp only
  repeat' split
  all_goals try dsimp only
  all_goals first | (simp only [enterMode_aside, produceWake_aside, warmTest_aside, State.modLcu_aside]; done) | (simp only [enterMode_aside, produceWake_aside, warmTest_aside, State.modLcu_aside]; rfl) | rfl

@[simp] theorem reqOpenLane_aside (n : Nat) (d : Dir) (s : State) (q : PortId) : (reqOpenLane n d s).2.aside q = s.aside q := by
  unfold reqOpenLane withLane applied refusedWith
  try dsimp only
  repeat' split
  all_goals try dsimp only
  all_goals first | (simp only [startWarming_aside]; done) | (simp only [startWarming_aside]; rfl) | rfl

@[simp] theorem turnLane_aside (l : LaneId) (d : Dir) (s : State) (q : PortId) : (turnLane l d s).2.aside q = s.aside q := by
  unfold turnLane applied refusedWith
  try dsimp only
  repeat' split
  all_goals try dsimp only
  all_goals first | (simp only [enterMode_aside]; done) | (simp only [enterMode_aside]; rfl) | rfl

@[simp] theorem reqSetDirection_aside (n : Nat) (d : Dir) (s : State) (q : PortId) : (reqSetDirection n d s).2.aside q = s.aside q := by
  unfold reqSetDirection withLane refusedWith
  try dsimp only
  repeat' split
  all_goals try dsimp only
  all_goals first | (simp only [turnLane_aside]; done) | (simp only [turnLane_aside]; rfl) | rfl

@[simp] theorem reqCloseLane_aside (n : Nat) (s : State) (q : PortId) : (reqCloseLane n s).2.aside q = s.aside q := by
  unfold reqCloseLane withLane applied refusedWith
  try dsimp only
  repeat' split
  all_goals try dsimp only
  all_goals first | (simp only [enterClosed_aside, enterMode_aside]; done) | (simp only [enterClosed_aside, enterMode_aside]; rfl) | rfl

@[simp] theorem reqHoldLane_aside (n : Nat) (s : State) (q : PortId) : (reqHoldLane n s).2.aside q = s.aside q := by
  unfold reqHoldLane withLane applied refusedWith
  try dsimp only
  repeat' split
  all_goals try dsimp only
  all_goals first | (simp only [addCause_aside]; done) | (simp only [addCause_aside]; rfl) | rfl

@[simp] theorem stepFrame_aside (l : LaneId) (s : State) : (stepFrame l s).2.aside (lanePort l) = s.aside (lanePort l) := by
  unfold stepFrame
  try dsimp only
  repeat' split
  all_goals try dsimp only
  all_goals first | (simp only [applyFrame_aside]; done) | (simp only [applyFrame_aside]; rfl) | rfl

@[simp] theorem stepAction_aside (l : LaneId) (s : State) : (stepAction l s).2.aside (lanePort l) = s.aside (lanePort l) := by
  unfold stepAction
  try dsimp only
  repeat' split
  all_goals try dsimp only
  all_goals first | (simp only [raiseBarrier_aside, showDirection_aside, stepFrame_aside]; done) | (simp only [raiseBarrier_aside, showDirection_aside, stepFrame_aside]; rfl) | rfl

@[simp] theorem reqStepLane_aside (n : Nat) (s : State) (q : PortId) (h : ∀ l : LaneId, laneOf n = some l → q = lanePort l) : (reqStepLane n s).2.aside q = s.aside q := by
  unfold reqStepLane withLane
  split
  · next l hl =>
    rw [h l hl]
    dsimp only
    split
    · unfold applied; exact stepAction_aside l s
    · rfl
  · rfl

@[simp] theorem liftHold_aside (l : LaneId) (s : State) (q : PortId) : (liftHold l s).aside q = s.aside q := by
  unfold liftHold
  try dsimp only
  repeat' split
  all_goals try dsimp only
  all_goals first | (simp only [raiseBarrier_aside, showDirection_aside, State.modLcu_aside]; done) | (simp only [raiseBarrier_aside, showDirection_aside, State.modLcu_aside]; rfl) | rfl

@[simp] theorem reqResumeLane_aside (n : Nat) (s : State) (q : PortId) (h : ∀ l : LaneId, laneOf n = some l → q = lanePort l) : (reqResumeLane n s).2.aside q = s.aside q := by
  unfold reqResumeLane withLane
  split
  · next l hl =>
    rw [h l hl]
    dsimp only
    split
    · unfold applied
      dsimp only
      rw [applyHeads_aside, transmitLanes_aside, liftHold_aside]
    · rfl
  · rfl

@[simp] theorem cancelBound_aside (l : LaneId) (v : VisitIx) (x : Visit) (s : State) (q : PortId) : (cancelBound l v x s).aside q = s.aside q := by
  unfold cancelBound
  try dsimp only
  repeat' split
  all_goals try dsimp only
  all_goals first | (simp only [closeVisit_aside, leaveBayWait_aside, releaseBay_aside, releaseLane_aside, releasePins_aside, resolvedNotice_aside, restoreBookings_aside, State.modLcu_aside, State.modVisit_aside]; done) | (simp only [closeVisit_aside, leaveBayWait_aside, releaseBay_aside, releaseLane_aside, releasePins_aside, resolvedNotice_aside, restoreBookings_aside, State.modLcu_aside, State.modVisit_aside]; rfl) | rfl

@[simp] theorem clearLane_aside (l : LaneId) (s : State) (q : PortId) : (clearLane l s).aside q = s.aside q := by
  unfold clearLane
  try dsimp only
  repeat' split
  all_goals try dsimp only
  all_goals first | (simp only [leaveParked_aside, lowerBarrier_aside, produceShow_aside, stopSweep_aside, State.modLane_aside, State.modPort_aside, State.modSweep_aside]; done) | (simp only [leaveParked_aside, lowerBarrier_aside, produceShow_aside, stopSweep_aside, State.modLane_aside, State.modPort_aside, State.modSweep_aside]; rfl) | rfl

@[simp] theorem reqResetLane_aside (n : Nat) (s : State) (q : PortId) : (reqResetLane n s).2.aside q = s.aside q := by
  unfold reqResetLane withLane applied
  try dsimp only
  repeat' split
  all_goals try dsimp only
  all_goals first | (simp only [cancelBound_aside, clearLane_aside, raiseEvent_aside]; done) | (simp only [cancelBound_aside, clearLane_aside, raiseEvent_aside]; rfl) | rfl

@[simp] theorem abandonChecks_aside (l : LaneId) (v : VisitIx) (s : State) (q : PortId) : (abandonChecks l v s).aside q = s.aside q := by
  unfold abandonChecks
  try dsimp only
  repeat' split
  all_goals try dsimp only
  all_goals first | (simp only [stopSweep_aside, stopT0_aside, State.modVisit_aside]; done) | (simp only [stopSweep_aside, stopT0_aside, State.modVisit_aside]; rfl) | rfl

@[simp] theorem overrideBay_aside (l : LaneId) (v : VisitIx) (x : Visit) (vd : Verdict) (s : State) (q : PortId) : (overrideBay l v x vd s).aside q = s.aside q := by
  unfold overrideBay
  split
  · split
    · rfl
    · have h := claimBay_aside v s q
      split
      · next t e => rw [← h, e]
      · next t e => rw [joinBayWait_aside, ← h, e]
  · rw [releaseBay_aside, leaveBayWait_aside]

@[simp] theorem lowerIfUp_aside (l : LaneId) (s : State) (q : PortId) : (lowerIfUp l s).aside q = s.aside q := by
  unfold lowerIfUp
  try dsimp only
  repeat' split
  all_goals try dsimp only
  all_goals first | (simp only [lowerBarrier_aside]; done) | (simp only [lowerBarrier_aside]; rfl) | rfl

@[simp] theorem overrideDirection_aside (l : LaneId) (v : VisitIx) (s : State) (q : PortId) : (overrideDirection l v s).aside q = s.aside q := by
  unfold overrideDirection
  try dsimp only
  repeat' split
  all_goals try dsimp only
  all_goals first | (simp only [makePending_aside, setPendingFlag_aside, setVisitState_aside, waitText_aside]; done) | (simp only [makePending_aside, setPendingFlag_aside, setVisitState_aside, waitText_aside]; rfl) | rfl

@[simp] theorem overrideVisit_aside (l : LaneId) (v : VisitIx) (x : Visit) (vd : Verdict) (s : State) (q : PortId) : (overrideVisit l v x vd s).aside q = s.aside q := by
  unfold overrideVisit
  dsimp only
  rw [onVisit_aside q _ _ _ (fun y t => by simp only [appendBound_aside]), overrideDirection_aside, lowerIfUp_aside, overrideBay_aside,
    writeVerdict_aside, State.addReason_aside]
  split
  · rw [abandonChecks_aside]
  · rfl

@[simp] theorem reqSetVerdict_aside (n : Nat) (vd : Verdict) (s : State) (q : PortId) : (reqSetVerdict n vd s).2.aside q = s.aside q := by
  unfold reqSetVerdict withLane applied refusedWith
  try dsimp only
  repeat' split
  all_goals try dsimp only
  all_goals first | (simp only [overrideVisit_aside]; done) | (simp only [overrideVisit_aside]; rfl) | rfl

@[simp] theorem settleReferred_aside (v : VisitIx) (x : Visit) (o : CloseOutcome) (s : State) (q : PortId) : (settleReferred v x o s).aside q = s.aside q := by
  unfold settleReferred
  try dsimp only
  repeat' split
  all_goals try dsimp only
  all_goals first | (simp only [advanceBookings_aside, closeVisit_aside, releaseBay_aside, releasePins_aside, resolvedNotice_aside, restoreBookings_aside]; done) | (simp only [advanceBookings_aside, closeVisit_aside, releaseBay_aside, releasePins_aside, resolvedNotice_aside, restoreBookings_aside]; rfl) | rfl

@[simp] theorem reqResolve_aside (n : Nat) (o : Verdict) (s : State) (q : PortId) : (reqResolve n o s).2.aside q = s.aside q := by
  unfold reqResolve withVisit applied refusedWith
  try dsimp only
  repeat' split
  all_goals try dsimp only
  all_goals first | (simp only [appendTrail_aside, settleReferred_aside]; done) | (simp only [appendTrail_aside, settleReferred_aside]; rfl) | rfl

@[simp] theorem reqCancelVisit_aside (n : Nat) (s : State) (q : PortId) : (reqCancelVisit n s).2.aside q = s.aside q := by
  unfold reqCancelVisit withVisit applied refusedWith
  try dsimp only
  repeat' split
  all_goals try dsimp only
  all_goals first | (simp only [settleReferred_aside]; done) | (simp only [settleReferred_aside]; rfl) | rfl

@[simp] theorem checkSequence_aside (l : LaneId) (f : LaneFrame) (s : State) : (checkSequence l f s).aside (lanePort l) = s.aside (lanePort l) := by
  unfold checkSequence
  try dsimp only
  repeat' split
  all_goals try dsimp only
  all_goals first | (simp only [recordLane_aside, State.modPort_aside]; done) | (simp only [recordLane_aside, State.modPort_aside]; rfl) | rfl

@[simp] theorem enqueueFrame_aside (l : LaneId) (f : LaneFrame) (s : State) : (enqueueFrame l f s).aside (lanePort l) = s.aside (lanePort l) := by
  unfold enqueueFrame
  try dsimp only
  repeat' split
  all_goals try dsimp only
  all_goals first | (simp only [recordLane_aside, unexpected_aside, State.modPort_aside]; done) | (simp only [recordLane_aside, unexpected_aside, State.modPort_aside]; rfl) | rfl

@[simp] theorem endSignWait_aside (l : LaneId) (s : State) (q : PortId) : (endSignWait l s).aside q = s.aside q := by
  unfold endSignWait
  try dsimp only
  repeat' split
  all_goals try dsimp only
  all_goals first | (simp only [State.modPort_aside]; done) | (simp only [State.modPort_aside]; rfl) | rfl

@[simp] theorem takeAckSign_aside (l : LaneId) (f : LaneFrame) (echo : Byte) (s : State) : (takeAckSign l f echo s).aside (lanePort l) = s.aside (lanePort l) := by
  unfold takeAckSign
  try dsimp only
  repeat' split
  all_goals try dsimp only
  all_goals first | (simp only [endSignWait_aside, handMark_aside, recordLane_aside, unexpected_aside]; done) | (simp only [endSignWait_aside, handMark_aside, recordLane_aside, unexpected_aside]; rfl) | rfl

@[simp] theorem takeAckBarrier_aside (l : LaneId) (f : LaneFrame) (echo : Byte) (pos : BarrierPos) (s : State) : (takeAckBarrier l f echo pos s).aside (lanePort l) = s.aside (lanePort l) := by
  unfold takeAckBarrier
  try dsimp only
  repeat' split
  all_goals try dsimp only
  all_goals first | (simp only [recordLane_aside, unexpected_aside, State.modPort_aside]; done) | (simp only [recordLane_aside, unexpected_aside, State.modPort_aside]; rfl) | rfl

@[simp] theorem routeFrame_aside (l : LaneId) (f : LaneFrame) (s : State) : (routeFrame l f s).aside (lanePort l) = s.aside (lanePort l) := by
  unfold routeFrame
  try dsimp only
  repeat' split
  all_goals try dsimp only
  all_goals first | (simp only [addReady_aside, enqueueFrame_aside, recordLane_aside, takeAckBarrier_aside, takeAckSign_aside]; done) | (simp only [addReady_aside, enqueueFrame_aside, recordLane_aside, takeAckBarrier_aside, takeAckSign_aside]; rfl) | rfl

@[simp] theorem takeFrame_aside (l : LaneId) (f : LaneFrame) (s : State) : (takeFrame l f s).aside (lanePort l) = s.aside (lanePort l) := by
  unfold takeFrame
  try dsimp only
  repeat' split
  all_goals try dsimp only
  all_goals first | (simp only [checkSequence_aside, routeFrame_aside]; done) | (simp only [checkSequence_aside, routeFrame_aside]; rfl) | rfl

@[simp] theorem laneComplete_aside (l : LaneId) (bytes : List Byte) (s : State) : (laneComplete l bytes s).aside (lanePort l) = s.aside (lanePort l) := by
  unfold laneComplete
  try dsimp only
  repeat' split
  all_goals try dsimp only
  all_goals first | (simp only [recordLane_aside, takeFrame_aside]; done) | (simp only [recordLane_aside, takeFrame_aside]; rfl) | rfl

@[simp] theorem setLaneRx_aside (l : LaneId) (rx : List Byte) (s : State) (q : PortId) : (setLaneRx l rx s).aside q = s.aside q := by
  unfold setLaneRx
  try dsimp only
  repeat' split
  all_goals try dsimp only
  all_goals first | (simp only [State.modPort_aside]; done) | (simp only [State.modPort_aside]; rfl) | rfl

@[simp] theorem cutLaneFrame_aside (l : LaneId) (bytes : List Byte) (s : State) : (cutLaneFrame l bytes s).aside (lanePort l) = s.aside (lanePort l) := by
  unfold cutLaneFrame
  try dsimp only
  repeat' split
  all_goals try dsimp only
  all_goals first | (simp only [recordLane_aside, setLaneRx_aside]; done) | (simp only [recordLane_aside, setLaneRx_aside]; rfl) | rfl

@[simp] theorem laneDown_aside (l : LaneId) (s : State) : (laneDown l s).aside (lanePort l) = s.aside (lanePort l) := by
  unfold laneDown
  try dsimp only
  repeat' split
  all_goals try dsimp only
  all_goals first | (simp only [cutLaneFrame_aside, State.modPort_aside]; done) | (simp only [cutLaneFrame_aside, State.modPort_aside]; rfl) | rfl

@[simp] theorem laneUp_aside (l : LaneId) (s : State) (q : PortId) : (laneUp l s).aside q = s.aside q := by
  unfold laneUp
  try dsimp only
  repeat' split
  all_goals try dsimp only
  all_goals first | (simp only [State.modPort_aside]; done) | (simp only [State.modPort_aside]; rfl) | rfl

@[simp] theorem laneIdle_aside (l : LaneId) (s : State) : (laneIdle l s).aside (lanePort l) = s.aside (lanePort l) := by
  unfold laneIdle
  try dsimp only
  repeat' split
  all_goals try dsimp only
  all_goals first | (simp only [cutLaneFrame_aside]; done) | (simp only [cutLaneFrame_aside]; rfl) | rfl

@[simp] theorem laneSent_aside (l : LaneId) (s : State) (q : PortId) : (laneSent l s).aside q = s.aside q := by
  unfold laneSent
  try dsimp only
  repeat' split
  all_goals try dsimp only
  all_goals first | (simp only [State.modPort_aside]; done) | (simp only [State.modPort_aside]; rfl) | rfl

@[simp] theorem expireSign_aside (l : LaneId) (s : State) : (expireSign l s).aside (lanePort l) = s.aside (lanePort l) := by
  unfold expireSign
  try dsimp only
  repeat' split
  all_goals try dsimp only
  all_goals first | (simp only [endSignWait_aside, recordLane_aside]; done) | (simp only [endSignWait_aside, recordLane_aside]; rfl) | rfl

@[simp] theorem markBarrierDown_aside (l : LaneId) (s : State) (q : PortId) : (markBarrierDown l s).aside q = s.aside q := by
  unfold markBarrierDown
  try dsimp only
  repeat' split
  all_goals try dsimp only
  all_goals first | (simp only [State.modVisit_aside]; done) | (simp only [State.modVisit_aside]; rfl) | rfl

@[simp] theorem expireBarrier_aside (l : LaneId) (s : State) (q : PortId) : (expireBarrier l s).aside q = s.aside q := by
  unfold expireBarrier
  try dsimp only
  repeat' split
  all_goals try dsimp only
  all_goals first | (simp only [addCause_aside, lowerBarrier_aside, markBarrierDown_aside]; done) | (simp only [addCause_aside, lowerBarrier_aside, markBarrierDown_aside]; rfl) | rfl

@[simp] theorem expireWarmup_aside (l : LaneId) (s : State) : (expireWarmup l s).aside (lanePort l) = s.aside (lanePort l) := by
  unfold expireWarmup
  try dsimp only
  repeat' split
  all_goals try dsimp only
  all_goals first | (simp only [enterClosed_aside, recordLane_aside]; done) | (simp only [enterClosed_aside, recordLane_aside]; rfl) | rfl

/-! ### The other lanes -/

@[simp] theorem raiseEvent_lanesBut (k : EventKind) (src : PortId) (s : State) (m : LaneId) : (raiseEvent k src s).lanesBut m = s.lanesBut m := by
  unfold raiseEvent
  try dsimp only
  repeat' split
  all_goals rfl

@[simp] theorem raiseAuthority_lanesBut (flag : Nat) (s : State) (m : LaneId) : (raiseAuthority flag s).lanesBut m = s.lanesBut m := by
  unfold raiseAuthority setAuthNotice
  rfl

@[simp] theorem produceShow_lanesBut (l : LaneId) (w : Show) (s : State) : (produceShow l w s).lanesBut l = s.lanesBut l := by
  unfold produceShow
  try dsimp only
  repeat' split
  all_goals try dsimp only
  all_goals first | (simp only [State.modLane_lanesBut]; done) | (simp only [State.modLane_lanesBut]; rfl) | rfl

@[simp] theorem raiseBarrier_lanesBut (l : LaneId) (s : State) : (raiseBarrier l s).lanesBut l = s.lanesBut l := by
  unfold raiseBarrier
  try dsimp only
  repeat' split
  all_goals try dsimp only
  all_goals first | (simp only [State.modLane_lanesBut]; done) | (simp only [State.modLane_lanesBut]; rfl) | rfl

@[simp] theorem lowerBarrier_lanesBut (l : LaneId) (s : State) : (lowerBarrier l s).lanesBut l = s.lanesBut l := by
  unfold lowerBarrier
  try dsimp only
  repeat' split
  all_goals try dsimp only
  all_goals first | (simp only [State.modLane_lanesBut]; done) | (simp only [State.modLane_lanesBut]; rfl) | rfl

@[simp] theorem produceSweep_lanesBut (l : LaneId) (w : SweepFrame) (s : State) : (produceSweep l w s).lanesBut l = s.lanesBut l := by
  unfold produceSweep
  try dsimp only
  repeat' split
  all_goals try dsimp only
  all_goals first | (simp only [State.modPort_lanesBut]; done) | (simp only [State.modPort_lanesBut]; rfl) | rfl

@[simp] theorem produceReread_lanesBut (l : LaneId) (units : BitVec 8) (s : State) : (produceReread l units s).lanesBut l = s.lanesBut l := by
  unfold produceReread
  try dsimp only
  repeat' split
  all_goals try dsimp only
  all_goals first | (simp only [State.modPort_lanesBut]; done) | (simp only [State.modPort_lanesBut]; rfl) | rfl

@[simp] theorem produceWake_lanesBut (l : LaneId) (s : State) : (produceWake l s).lanesBut l = s.lanesBut l := by
  unfold produceWake
  try dsimp only
  repeat' split
  all_goals try dsimp only
  all_goals first | (simp only [State.modPort_lanesBut]; done) | (simp only [State.modPort_lanesBut]; rfl) | rfl

@[simp] theorem waitText_lanesBut (l : LaneId) (s : State) : (waitText l s).lanesBut l = s.lanesBut l := by
  unfold waitText
  try dsimp only
  repeat' split
  all_goals try dsimp only
  all_goals first | (simp only [produceShow_lanesBut]; done) | (simp only [produceShow_lanesBut]; rfl) | rfl

@[simp] theorem setPendingFlag_lanesBut (l : LaneId) (b : Bool) (s : State) : (setPendingFlag l b s).lanesBut l = s.lanesBut l := by
  unfold setPendingFlag
  try dsimp only
  repeat' split
  all_goals try dsimp only
  all_goals first | (simp only [State.modLcu_lanesBut]; done) | (simp only [State.modLcu_lanesBut]; rfl) | rfl

@[simp] theorem showDirection_lanesBut (l : LaneId) (s : State) : (showDirection l s).lanesBut l = s.lanesBut l := by
  unfold showDirection
  try dsimp only
  repeat' split
  all_goals try dsimp only
  all_goals first | (simp only [produceShow_lanesBut, raiseBarrier_lanesBut, setPendingFlag_lanesBut, State.modVisit_lanesBut]; done) | (simp only [produceShow_lanesBut, raiseBarrier_lanesBut, setPendingFlag_lanesBut, State.modVisit_lanesBut]; rfl) | rfl

@[simp] theorem makePending_lanesBut (l : LaneId) (s : State) : (makePending l s).lanesBut l = s.lanesBut l := by
  unfold makePending
  try dsimp only
  repeat' split
  all_goals try dsimp only
  all_goals first | (simp only [setPendingFlag_lanesBut, waitText_lanesBut]; done) | (simp only [setPendingFlag_lanesBut, waitText_lanesBut]; rfl) | rfl

@[simp] theorem appendTrail_lanesBut (c : TrailCause) (vd : Verdict) (x : Visit) (s : State) (m : LaneId) : (appendTrail c vd x s).lanesBut m = s.lanesBut m := by
  unfold appendTrail
  try dsimp only
  repeat' split
  all_goals rfl

@[simp] theorem appendBound_lanesBut (c : TrailCause) (vd : Verdict) (l : LaneId) (x : Visit) (s : State) : (appendBound c vd l x s).lanesBut l = s.lanesBut l := by
  unfold appendBound
  try dsimp only
  repeat' split
  all_goals try dsimp only
  all_goals first | (simp only [appendTrail_lanesBut, State.modLane_lanesBut]; done) | (simp only [appendTrail_lanesBut, State.modLane_lanesBut]; rfl) | rfl

@[simp] theorem handMark_lanesBut (l : LaneId) (m : TrailMark) (s : State) : (handMark l m s).lanesBut l = s.lanesBut l := by
  unfold handMark
  try dsimp only
  repeat' split
  all_goals try dsimp only
  all_goals first | (simp only [State.modLane_lanesBut]; done) | (simp only [State.modLane_lanesBut]; rfl) | rfl

@[simp] theorem signAtHold_lanesBut (l : LaneId) (s : State) : (signAtHold l s).lanesBut l = s.lanesBut l := by
  unfold signAtHold
  try dsimp only
  repeat' split
  all_goals try dsimp only
  all_goals first | (simp only [waitText_lanesBut, State.modLcu_lanesBut]; done) | (simp only [waitText_lanesBut, State.modLcu_lanesBut]; rfl) | rfl

@[simp] theorem leaveParked_lanesBut (l : LaneId) (s : State) : (leaveParked l s).lanesBut l = s.lanesBut l := by
  unfold leaveParked
  try dsimp only
  repeat' split
  all_goals rfl

@[simp] theorem enterHold_lanesBut (l : LaneId) (s : State) : (enterHold l s).lanesBut l = s.lanesBut l := by
  unfold enterHold
  try dsimp only
  repeat' split
  all_goals try dsimp only
  all_goals first | (simp only [leaveParked_lanesBut, raiseEvent_lanesBut, signAtHold_lanesBut]; done) | (simp only [leaveParked_lanesBut, raiseEvent_lanesBut, signAtHold_lanesBut]; rfl) | rfl

@[simp] theorem putCause_lanesBut (l : LaneId) (c : HoldCause) (s : State) : (putCause l c s).lanesBut l = s.lanesBut l := by
  unfold putCause
  try dsimp only
  repeat' split
  all_goals try dsimp only
  all_goals first | (simp only [State.modLcu_lanesBut, State.modVisit_lanesBut]; done) | (simp only [State.modLcu_lanesBut, State.modVisit_lanesBut]; rfl) | rfl

@[simp] theorem addCause_lanesBut (l : LaneId) (c : HoldCause) (s : State) : (addCause l c s).lanesBut l = s.lanesBut l := by
  unfold addCause
  try dsimp only
  repeat' split
  all_goals try dsimp only
  all_goals first | (simp only [enterHold_lanesBut, putCause_lanesBut]; done) | (simp only [enterHold_lanesBut, putCause_lanesBut]; rfl) | rfl

@[simp] theorem recordLane_lanesBut (l : LaneId) (k : FaultKind) (frame : List Byte) (s : State) : (recordLane l k frame s).lanesBut l = s.lanesBut l := by
  unfold recordLane
  try dsimp only
  repeat' split
  all_goals try dsimp only
  all_goals first | (simp only [addCause_lanesBut, noteFault_lanesBut]; done) | (simp only [addCause_lanesBut, noteFault_lanesBut]; rfl) | rfl

@[simp] theorem enterClosed_lanesBut (l : LaneId) (s : State) : (enterClosed l s).lanesBut l = s.lanesBut l := by
  unfold enterClosed
  try dsimp only
  repeat' split
  all_goals try dsimp only
  all_goals first | (simp only [leaveParked_lanesBut, lowerBarrier_lanesBut, produceShow_lanesBut, raiseEvent_lanesBut, State.modLane_lanesBut, State.modPort_lanesBut]; done) | (simp only [leaveParked_lanesBut, lowerBarrier_lanesBut, produceShow_lanesBut, raiseEvent_lanesBut, State.modLane_lanesBut, State.modPort_lanesBut]; rfl) | rfl

@[simp] theorem warmTest_lanesBut (l : LaneId) (s : State) : (warmTest l s).lanesBut l = s.lanesBut l := by
  unfold warmTest
  try dsimp only
  repeat' split
  all_goals try dsimp only
  all_goals first | (simp only [raiseEvent_lanesBut, State.modLcu_lanesBut]; done) | (simp only [raiseEvent_lanesBut, State.modLcu_lanesBut]; rfl) | rfl

@[simp] theorem addReady_lanesBut (l : LaneId) (k : UnitKind) (s : State) : (addReady l k s).lanesBut l = s.lanesBut l := by
  unfold addReady
  try dsimp only
  repeat' split
  all_goals try dsimp only
  all_goals first | (simp only [warmTest_lanesBut, State.modLcu_lanesBut]; done) | (simp only [warmTest_lanesBut, State.modLcu_lanesBut]; rfl) | rfl

@[simp] theorem auditStep_lanesBut (l : LaneId) (s : State) : (auditStep l s).lanesBut l = s.lanesBut l := by
  unfold auditStep
  try dsimp only
  repeat' split
  all_goals try dsimp only
  all_goals first | (simp only [addCause_lanesBut, State.modLcu_lanesBut]; done) | (simp only [addCause_lanesBut, State.modLcu_lanesBut]; rfl) | rfl

@[simp] theorem popHead_lanesBut (l : LaneId) (s : State) : (popHead l s).lanesBut l = s.lanesBut l := by
  unfold popHead
  try dsimp only
  repeat' split
  all_goals try dsimp only
  all_goals first | (simp only [State.modPort_lanesBut]; done) | (simp only [State.modPort_lanesBut]; rfl) | rfl

@[simp] theorem grant_lanesBut (l : LaneId) (v : VisitIx) (load : LoadClass) (s : State) : (grant l v load s).lanesBut l = s.lanesBut l := by
  unfold grant
  rw [State.modLcu_lanesBut]
  exact popHead_lanesBut l s

@[simp] theorem park_lanesBut (l : LaneId) (s : State) : (park l s).lanesBut l = s.lanesBut l := by
  unfold park
  try dsimp only
  repeat' split
  all_goals try dsimp only
  all_goals first | (simp only [raiseEvent_lanesBut, waitText_lanesBut]; done) | (simp only [raiseEvent_lanesBut, waitText_lanesBut]; rfl) | rfl

@[simp] theorem takeBay_lanesBut (v : VisitIx) (b : Nat) (s : State) (m : LaneId) : (takeBay v b s).lanesBut m = s.lanesBut m := by
  unfold takeBay
  try dsimp only
  repeat' split
  all_goals try dsimp only
  all_goals first | (simp only [State.modVisit_lanesBut]; done) | (simp only [State.modVisit_lanesBut]; rfl) | rfl

@[simp] theorem setVisitState_lanesBut (v : VisitIx) (st : VisitState) (s : State) (m : LaneId) : (setVisitState v st s).lanesBut m = s.lanesBut m := by
  unfold setVisitState
  try dsimp only
  repeat' split
  all_goals try dsimp only
  all_goals first | (simp only [State.modVisit_lanesBut]; done) | (simp only [State.modVisit_lanesBut]; rfl) | rfl

@[simp] theorem joinBayWait_lanesBut (l : LaneId) (v : VisitIx) (s : State) : (joinBayWait l v s).lanesBut l = s.lanesBut l := by
  unfold joinBayWait
  try dsimp only
  repeat' split
  all_goals try dsimp only
  all_goals first | (simp only [raiseEvent_lanesBut, setVisitState_lanesBut, waitText_lanesBut]; done) | (simp only [raiseEvent_lanesBut, setVisitState_lanesBut, waitText_lanesBut]; rfl) | rfl

@[simp] theorem enterDirected_lanesBut (l : LaneId) (v : VisitIx) (s : State) : (enterDirected l v s).lanesBut l = s.lanesBut l := by
  unfold enterDirected
  try dsimp only
  repeat' split
  all_goals try dsimp only
  all_goals first | (simp only [makePending_lanesBut, setVisitState_lanesBut, showDirection_lanesBut]; done) | (simp only [makePending_lanesBut, setVisitState_lanesBut, showDirection_lanesBut]; rfl) | rfl

@[simp] theorem claimBay_lanesBut (v : VisitIx) (s : State) (m : LaneId) : (claimBay v s).2.lanesBut m = s.lanesBut m := by
  unfold claimBay
  try dsimp only
  repeat' split
  all_goals try dsimp only
  all_goals first | (simp only [takeBay_lanesBut]; done) | (simp only [takeBay_lanesBut]; rfl) | rfl

@[simp] theorem leaveBayWait_lanesBut (v : VisitIx) (s : State) (m : LaneId) : (leaveBayWait v s).lanesBut m = s.lanesBut m := by
  unfold leaveBayWait
  try dsimp only
  repeat' split
  all_goals rfl

@[simp] theorem advanceBookings_lanesBut (x : Visit) (s : State) (m : LaneId) : (advanceBookings x s).lanesBut m = s.lanesBut m := by
  unfold advanceBookings
  try dsimp only
  repeat' split
  all_goals try dsimp only
  all_goals first | (simp only [modBookings_lanesBut]; done) | (simp only [modBookings_lanesBut]; rfl) | rfl

@[simp] theorem restoreBookings_lanesBut (x : Visit) (s : State) (m : LaneId) : (restoreBookings x s).lanesBut m = s.lanesBut m := by
  unfold restoreBookings
  try dsimp only
  repeat' split
  all_goals try dsimp only
  all_goals first | (simp only [modBookings_lanesBut]; done) | (simp only [modBookings_lanesBut]; rfl) | rfl

@[simp] theorem releasePins_lanesBut (x : Visit) (s : State) (m : LaneId) : (releasePins x s).lanesBut m = s.lanesBut m := by
  unfold releasePins
  try dsimp only
  repeat' split
  all_goals rfl

@[simp] theorem releaseLane_lanesBut (l : LaneId) (v : VisitIx) (s : State) : (releaseLane l v s).lanesBut l = s.lanesBut l := by
  unfold releaseLane
  try dsimp only
  repeat' split
  all_goals try dsimp only
  all_goals first | (simp only [State.modLane_lanesBut, State.modVisit_lanesBut]; done) | (simp only [State.modLane_lanesBut, State.modVisit_lanesBut]; rfl) | rfl

@[simp] theorem drainRelease_lanesBut (l : LaneId) (s : State) : (drainRelease l s).lanesBut l = s.lanesBut l := by
  unfold drainRelease
  try dsimp only
  repeat' split
  all_goals try dsimp only
  all_goals first | (simp only [enterClosed_lanesBut, raiseEvent_lanesBut, State.modLcu_lanesBut]; done) | (simp only [enterClosed_lanesBut, raiseEvent_lanesBut, State.modLcu_lanesBut]; rfl) | rfl

@[simp] theorem gateReasons_lanesBut (v : VisitIx) (threshold : Nat) (e : Carried) (s : State) (m : LaneId) : (gateReasons v threshold e s).lanesBut m = s.lanesBut m := by
  unfold gateReasons
  try dsimp only
  repeat' split
  all_goals try dsimp only
  all_goals first | (simp only [State.addReason_lanesBut]; done) | (simp only [State.addReason_lanesBut]; rfl) | rfl

@[simp] theorem matchEntry_lanesBut (v : VisitIx) (x : Visit) (e : Carried) (s : State) (m : LaneId) : (matchEntry v x e s).lanesBut m = s.lanesBut m := by
  unfold matchEntry
  try dsimp only
  repeat' split
  all_goals try dsimp only
  all_goals first | (simp only [modBookings_lanesBut, State.addReason_lanesBut, State.modEntry_lanesBut]; done) | (simp only [modBookings_lanesBut, State.addReason_lanesBut, State.modEntry_lanesBut]; rfl) | rfl

@[simp] theorem matchCarried_lanesBut (v : VisitIx) (threshold : Nat) (x : Visit) (s : State) (m : LaneId) : (matchCarried v threshold x s).lanesBut m = s.lanesBut m := by
  unfold matchCarried
  dsimp only
  rw [lanesBut_foldl m _ (fun s e => by simp only [matchEntry_lanesBut]), lanesBut_foldl m _ (fun s e => by simp only [gateReasons_lanesBut])]

@[simp] theorem matchCard_lanesBut (v : VisitIx) (x : Visit) (s : State) (m : LaneId) : (matchCard v x s).lanesBut m = s.lanesBut m := by
  unfold matchCard
  try dsimp only
  repeat' split
  all_goals try dsimp only
  all_goals first | (simp only [modBookings_lanesBut, State.addReason_lanesBut, State.modVisit_lanesBut]; done) | (simp only [modBookings_lanesBut, State.addReason_lanesBut, State.modVisit_lanesBut]; rfl) | rfl

@[simp] theorem checkPlate_lanesBut (v : VisitIx) (threshold : Nat) (x : Visit) (s : State) (m : LaneId) : (checkPlate v threshold x s).lanesBut m = s.lanesBut m := by
  unfold checkPlate
  try dsimp only
  repeat' split
  all_goals try dsimp only
  all_goals first | (simp only [State.addReason_lanesBut]; done) | (simp only [State.addReason_lanesBut]; rfl) | rfl

@[simp] theorem checkCard_lanesBut (v : VisitIx) (x : Visit) (s : State) (m : LaneId) : (checkCard v x s).lanesBut m = s.lanesBut m := by
  unfold checkCard
  try dsimp only
  repeat' split
  all_goals try dsimp only
  all_goals first | (simp only [State.addReason_lanesBut]; done) | (simp only [State.addReason_lanesBut]; rfl) | rfl

@[simp] theorem reslot_lanesBut (v : VisitIx) (i : Nat) (b : Booking) (p : Option Position) (s : State) (m : LaneId) : (reslot v i b p s).lanesBut m = s.lanesBut m := by
  unfold reslot
  try dsimp only
  repeat' split
  all_goals try dsimp only
  all_goals first | (simp only [modBookings_lanesBut, State.addReason_lanesBut, State.modEntry_lanesBut, State.modUsed_lanesBut]; done) | (simp only [modBookings_lanesBut, State.addReason_lanesBut, State.modEntry_lanesBut, State.modUsed_lanesBut]; rfl) | rfl

@[simp] theorem judgeWindow_lanesBut (v : VisitIx) (a : Nat) (i : Nat) (p : Option Position) (s : State) (m : LaneId) : (judgeWindow v a i p s).lanesBut m = s.lanesBut m := by
  unfold judgeWindow
  try dsimp only
  repeat' split
  all_goals try dsimp only
  all_goals first | (simp only [reslot_lanesBut, State.addReason_lanesBut]; done) | (simp only [reslot_lanesBut, State.addReason_lanesBut]; rfl) | rfl

@[simp] theorem checkWindows_lanesBut (v : VisitIx) (x : Visit) (s : State) (m : LaneId) : (checkWindows v x s).lanesBut m = s.lanesBut m := by
  unfold checkWindows
  split
  · rfl
  · split
    · exact lanesBut_foldl m _ (fun s (p : Nat × Option Position) => by simp only [judgeWindow_lanesBut]) _ _
    · split <;> rfl

@[simp] theorem admissionLookup_lanesBut (l : LaneId) (v : VisitIx) (s : State) : (admissionLookup l v s).lanesBut l = s.lanesBut l := by
  unfold admissionLookup
  dsimp only
  rw [onVisit_lanesBut l _ _ _ (fun x t => by simp only [checkWindows_lanesBut]), onVisit_lanesBut l _ _ _ (fun x t => by simp only [checkCard_lanesBut]),
    onVisit_lanesBut l _ _ _ (fun x t => by simp only [checkPlate_lanesBut]), onVisit_lanesBut l _ _ _ (fun x t => by simp only [matchCard_lanesBut]),
    onVisit_lanesBut l _ _ _ (fun x t => by simp only [matchCarried_lanesBut])]

@[simp] theorem setClosure_lanesBut (v : VisitIx) (p : Position) (o : ClosureOutcome) (s : State) (m : LaneId) : (setClosure v p o s).lanesBut m = s.lanesBut m := by
  unfold setClosure
  try dsimp only
  repeat' split
  all_goals try dsimp only
  all_goals first | (simp only [State.addReason_lanesBut, State.modEntry_lanesBut]; done) | (simp only [State.addReason_lanesBut, State.modEntry_lanesBut]; rfl) | rfl

@[simp] theorem touchRecency_lanesBut (i : Nat) (s : State) (m : LaneId) : (touchRecency i s).lanesBut m = s.lanesBut m := by
  unfold touchRecency
  try dsimp only
  repeat' split
  all_goals rfl

@[simp] theorem takePin_lanesBut (v : VisitIx) (p : Position) (i : Nat) (s : State) (m : LaneId) : (takePin v p i s).lanesBut m = s.lanesBut m := by
  unfold takePin
  try dsimp only
  repeat' split
  all_goals try dsimp only
  all_goals first | (simp only [State.modEntry_lanesBut]; done) | (simp only [State.modEntry_lanesBut]; rfl) | rfl

@[simp] theorem startClosure_lanesBut (l : LaneId) (v : VisitIx) (e : Carried) (s : State) : (startClosure l v e s).lanesBut l = s.lanesBut l := by
  unfold startClosure
  try dsimp only
  repeat' split
  all_goals try dsimp only
  all_goals first | (simp only [raiseEvent_lanesBut, setClosure_lanesBut, takePin_lanesBut, touchRecency_lanesBut]; done) | (simp only [raiseEvent_lanesBut, setClosure_lanesBut, takePin_lanesBut, touchRecency_lanesBut]; rfl) | rfl

@[simp] theorem startClosures_lanesBut (l : LaneId) (v : VisitIx) (s : State) : (startClosures l v s).lanesBut l = s.lanesBut l := by
  unfold startClosures
  exact onVisit_lanesBut l _ _ _ fun x t => lanesBut_foldl l _ (fun s e => by simp only [startClosure_lanesBut]) _ _

@[simp] theorem evaluateRead_lanesBut (v : VisitIx) (e : Carried) (r : ClosureRead) (s : State) (m : LaneId) : (evaluateRead v e r s).lanesBut m = s.lanesBut m := by
  unfold evaluateRead
  try dsimp only
  repeat' split
  all_goals try dsimp only
  all_goals first | (simp only [setClosure_lanesBut]; done) | (simp only [setClosure_lanesBut]; rfl) | rfl

@[simp] theorem expireClosure_lanesBut (v : VisitIx) (e : Carried) (s : State) (m : LaneId) : (expireClosure v e s).lanesBut m = s.lanesBut m := by
  unfold expireClosure
  try dsimp only
  repeat' split
  all_goals try dsimp only
  all_goals first | (simp only [setClosure_lanesBut]; done) | (simp only [setClosure_lanesBut]; rfl) | rfl

@[simp] theorem markNotSwept_lanesBut (v : VisitIx) (s : State) (m : LaneId) : (markNotSwept v s).lanesBut m = s.lanesBut m := by
  unfold markNotSwept
  try dsimp only
  repeat' split
  all_goals try dsimp only
  all_goals first | (simp only [State.modVisit_lanesBut]; done) | (simp only [State.modVisit_lanesBut]; rfl) | rfl

@[simp] theorem startSweep_lanesBut (l : LaneId) (v : VisitIx) (x : Visit) (s : State) : (startSweep l v x s).lanesBut l = s.lanesBut l := by
  unfold startSweep
  dsimp only
  split
  · rw [markNotSwept_lanesBut]
  · rw [produceSweep_lanesBut, State.modSweep_lanesBut]

@[simp] theorem stopSweep_lanesBut (l : LaneId) (s : State) : (stopSweep l s).lanesBut l = s.lanesBut l := by
  unfold stopSweep
  try dsimp only
  repeat' split
  all_goals try dsimp only
  all_goals first | (simp only [produceSweep_lanesBut, State.modSweep_lanesBut]; done) | (simp only [produceSweep_lanesBut, State.modSweep_lanesBut]; rfl) | rfl

@[simp] theorem settleSwept_lanesBut (l : LaneId) (v : VisitIx) (o : DamageOutcome) (s : State) : (settleSwept l v o s).lanesBut l = s.lanesBut l := by
  unfold settleSwept
  try dsimp only
  repeat' split
  all_goals try dsimp only
  all_goals first | (simp only [State.modVisit_lanesBut]; done) | (simp only [State.modVisit_lanesBut]; rfl) | rfl

@[simp] theorem fireMinor_lanesBut (v : VisitIx) (p : Position) (s : State) (m : LaneId) : (fireMinor v p s).lanesBut m = s.lanesBut m := by
  unfold fireMinor onVisit
  try dsimp only
  repeat' split
  all_goals try dsimp only
  all_goals first | (simp only [State.addReason_lanesBut, State.modEntry_lanesBut]; done) | (simp only [State.addReason_lanesBut, State.modEntry_lanesBut]; rfl) | rfl

@[simp] theorem fireSurvey_lanesBut (v : VisitIx) (p : Position) (s : State) (m : LaneId) : (fireSurvey v p s).lanesBut m = s.lanesBut m := by
  unfold fireSurvey
  try dsimp only
  repeat' split
  all_goals try dsimp only
  all_goals first | (simp only [State.addReason_lanesBut, State.modEntry_lanesBut]; done) | (simp only [State.addReason_lanesBut, State.modEntry_lanesBut]; rfl) | rfl

@[simp] theorem fireRule_lanesBut (l : LaneId) (v : VisitIx) (i : Fin 16) (p : Position) (a : RuleAction) (s : State) : (fireRule l v i p a s).lanesBut l = s.lanesBut l := by
  unfold fireRule
  try dsimp only
  repeat' split
  all_goals try dsimp only
  all_goals first | (simp only [addCause_lanesBut, fireMinor_lanesBut, fireSurvey_lanesBut, State.modEntry_lanesBut]; done) | (simp only [addCause_lanesBut, fireMinor_lanesBut, fireSurvey_lanesBut, State.modEntry_lanesBut]; rfl) | rfl

@[simp] theorem modStates_lanesBut (l : LaneId) (f : MatchState → MatchState) (s : State) : (modStates l f s).lanesBut l = s.lanesBut l := by
  unfold modStates
  try dsimp only
  repeat' split
  all_goals try dsimp only
  all_goals first | (simp only [State.modSweep_lanesBut]; done) | (simp only [State.modSweep_lanesBut]; rfl) | rfl

@[simp] theorem judgeRule_lanesBut (l : LaneId) (v : VisitIx) (f : Finding) (s : State) (i : Fin 16) : (judgeRule l v f s i).lanesBut l = s.lanesBut l := by
  unfold judgeRule
  try dsimp only
  repeat' split
  all_goals try dsimp only
  all_goals first | (simp only [fireRule_lanesBut, modStates_lanesBut]; done) | (simp only [fireRule_lanesBut, modStates_lanesBut]; rfl) | rfl

@[simp] theorem judgeFinding_lanesBut (l : LaneId) (v : VisitIx) (f : Finding) (s : State) : (judgeFinding l v f s).lanesBut l = s.lanesBut l := by
  unfold judgeFinding
  exact lanesBut_foldl l _ (fun s i => by simp only [judgeRule_lanesBut]) _ _

@[simp] theorem applyFinding_lanesBut (l : LaneId) (f : Finding) (s : State) : (applyFinding l f s).lanesBut l = s.lanesBut l := by
  unfold applyFinding
  dsimp only
  split
  · rw [judgeFinding_lanesBut, State.modEntry_lanesBut, State.modSweep_lanesBut]
  · rw [State.modSweep_lanesBut]

@[simp] theorem endSweep_lanesBut (l : LaneId) (st : SweepStatus) (count : Nat) (s : State) : (endSweep l st count s).lanesBut l = s.lanesBut l := by
  unfold endSweep
  try dsimp only
  repeat' split
  all_goals try dsimp only
  all_goals first | (simp only [settleSwept_lanesBut, State.addReason_lanesBut, State.modSweep_lanesBut]; done) | (simp only [settleSwept_lanesBut, State.addReason_lanesBut, State.modSweep_lanesBut]; rfl) | rfl

@[simp] theorem writeVerdict_lanesBut (l : LaneId) (v : VisitIx) (vd : Verdict) (s : State) : (writeVerdict l v vd s).lanesBut l = s.lanesBut l := by
  unfold writeVerdict
  try dsimp only
  repeat' split
  all_goals try dsimp only
  all_goals first | (simp only [State.modVisit_lanesBut]; done) | (simp only [State.modVisit_lanesBut]; rfl) | rfl

@[simp] theorem placeVisit_lanesBut (l : LaneId) (v : VisitIx) (vd : Verdict) (s : State) : (placeVisit l v vd s).lanesBut l = s.lanesBut l := by
  unfold placeVisit
  split
  · rw [enterDirected_lanesBut, auditStep_lanesBut]
  · have h := claimBay_lanesBut v s l
    split
    · next t e => rw [enterDirected_lanesBut, ← h, e]
    · next t e => rw [joinBayWait_lanesBut, ← h, e]
  · rw [enterDirected_lanesBut]

@[simp] theorem composeVerdict_lanesBut (l : LaneId) (v : VisitIx) (s : State) : (composeVerdict l v s).lanesBut l = s.lanesBut l := by
  unfold composeVerdict
  exact onVisit_lanesBut l _ _ _ fun x t => by simp only [placeVisit_lanesBut, appendBound_lanesBut, writeVerdict_lanesBut]

@[simp] theorem stopT0_lanesBut (l : LaneId) (s : State) : (stopT0 l s).lanesBut l = s.lanesBut l := by
  unfold stopT0
  try dsimp only
  repeat' split
  all_goals try dsimp only
  all_goals first | (simp only [State.modLcu_lanesBut]; done) | (simp only [State.modLcu_lanesBut]; rfl) | rfl

@[simp] theorem startT0_lanesBut (l : LaneId) (k : WindowKind) (s : State) : (startT0 l k s).lanesBut l = s.lanesBut l := by
  unfold startT0
  try dsimp only
  repeat' split
  all_goals try dsimp only
  all_goals first | (simp only [State.modLcu_lanesBut]; done) | (simp only [State.modLcu_lanesBut]; rfl) | rfl

@[simp] theorem completionTest_lanesBut (l : LaneId) (v : VisitIx) (s : State) : (completionTest l v s).lanesBut l = s.lanesBut l := by
  unfold completionTest
  exact onVisit_lanesBut l _ _ _ fun x t => by
    split
    · simp only [composeVerdict_lanesBut, stopT0_lanesBut]
    · rfl

@[simp] theorem testBound_lanesBut (l : LaneId) (s : State) : (testBound l s).lanesBut l = s.lanesBut l := by
  unfold testBound
  try dsimp only
  repeat' split
  all_goals try dsimp only
  all_goals first | (simp only [completionTest_lanesBut]; done) | (simp only [completionTest_lanesBut]; rfl) | rfl

@[simp] theorem holdListCheck_lanesBut (v : VisitIx) (x : Visit) (s : State) (m : LaneId) : (holdListCheck v x s).lanesBut m = s.lanesBut m := by
  unfold holdListCheck
  try dsimp only
  repeat' split
  all_goals try dsimp only
  all_goals first | (simp only [raiseAuthority_lanesBut, State.addReason_lanesBut, State.modVisit_lanesBut]; done) | (simp only [raiseAuthority_lanesBut, State.addReason_lanesBut, State.modVisit_lanesBut]; rfl) | rfl

@[simp] theorem enterChecking_lanesBut (l : LaneId) (v : VisitIx) (s : State) : (enterChecking l v s).lanesBut l = s.lanesBut l := by
  unfold enterChecking
  dsimp only
  rw [completionTest_lanesBut, startT0_lanesBut, onVisit_lanesBut l _ _ _ (fun x t => by simp only [startSweep_lanesBut]), startClosures_lanesBut,
    onVisit_lanesBut l _ _ _ (fun x t => by simp only [holdListCheck_lanesBut]), admissionLookup_lanesBut, setVisitState_lanesBut]

@[simp] theorem identityTest_lanesBut (l : LaneId) (v : VisitIx) (s : State) : (identityTest l v s).lanesBut l = s.lanesBut l := by
  unfold identityTest
  exact onVisit_lanesBut l _ _ _ fun x t => by
    split
    · rw [enterChecking_lanesBut]
    · rfl

@[simp] theorem readWindowRunsOut_lanesBut (l : LaneId) (v : VisitIx) (x : Visit) (s : State) : (readWindowRunsOut l v x s).lanesBut l = s.lanesBut l := by
  unfold readWindowRunsOut
  try dsimp only
  repeat' split
  all_goals try dsimp only
  all_goals first | (simp only [enterChecking_lanesBut, produceReread_lanesBut, startT0_lanesBut, State.addReason_lanesBut, State.modVisit_lanesBut]; done) | (simp only [enterChecking_lanesBut, produceReread_lanesBut, startT0_lanesBut, State.addReason_lanesBut, State.modVisit_lanesBut]; rfl) | rfl

@[simp] theorem expireRead_lanesBut (l : LaneId) (s : State) : (expireRead l s).lanesBut l = s.lanesBut l := by
  unfold expireRead
  try dsimp only
  repeat' split
  all_goals try dsimp only
  all_goals first | (simp only [readWindowRunsOut_lanesBut, stopT0_lanesBut]; done) | (simp only [readWindowRunsOut_lanesBut, stopT0_lanesBut]; rfl) | rfl

@[simp] theorem expireSweep_lanesBut (l : LaneId) (v : VisitIx) (s : State) : (expireSweep l v s).lanesBut l = s.lanesBut l := by
  unfold expireSweep
  try dsimp only
  repeat' split
  all_goals try dsimp only
  all_goals first | (simp only [settleSwept_lanesBut, stopSweep_lanesBut, State.addReason_lanesBut]; done) | (simp only [settleSwept_lanesBut, stopSweep_lanesBut, State.addReason_lanesBut]; rfl) | rfl

@[simp] theorem expireCheck_lanesBut (l : LaneId) (s : State) : (expireCheck l s).lanesBut l = s.lanesBut l := by
  unfold expireCheck
  split
  · dsimp only
    split
    · split
      · rw [composeVerdict_lanesBut, expireSweep_lanesBut, lanesBut_foldl l _ (fun s e => by simp only [expireClosure_lanesBut]), stopT0_lanesBut]
      · rw [stopT0_lanesBut]
    · rw [stopT0_lanesBut]
  · rfl

@[simp] theorem unexpected_lanesBut (l : LaneId) (f : LaneFrame) (s : State) : (unexpected l f s).lanesBut l = s.lanesBut l := by
  unfold unexpected
  try dsimp only
  repeat' split
  all_goals try dsimp only
  all_goals first | (simp only [popHead_lanesBut, recordLane_lanesBut]; done) | (simp only [popHead_lanesBut, recordLane_lanesBut]; rfl) | rfl

@[simp] theorem arriveApplied_lanesBut (l : LaneId) (f : LaneFrame) (load : LoadClass) (s : State) : (arriveApplied l f load s).lanesBut l = s.lanesBut l := by
  unfold arriveApplied
  try dsimp only
  repeat' split
  all_goals try dsimp only
  all_goals first | (simp only [grant_lanesBut, park_lanesBut, unexpected_lanesBut]; done) | (simp only [grant_lanesBut, park_lanesBut, unexpected_lanesBut]; rfl) | rfl

/-- A read taken in IDENTIFYING, where taking it keeps the rest. -/
theorem inIdentifying_lanesBut (l : LaneId) (f : LaneFrame) (k : VisitIx → Visit → State → State) (s : State)
    (h : ∀ v x t, (k v x t).lanesBut l = t.lanesBut l) : (inIdentifying l f k s).lanesBut l = s.lanesBut l := by
  unfold inIdentifying
  split
  · split
    · rw [identityTest_lanesBut, h, popHead_lanesBut]
    · rw [unexpected_lanesBut]
  · rw [unexpected_lanesBut]

@[simp] theorem plateApplied_lanesBut (l : LaneId) (f : LaneFrame) (conf : Nat) (t : Text) (s : State) : (plateApplied l f conf t s).lanesBut l = s.lanesBut l := by
  unfold plateApplied
  exact inIdentifying_lanesBut _ _ _ _ fun v x t => rfl

@[simp] theorem cardApplied_lanesBut (l : LaneId) (f : LaneFrame) (t : Text) (s : State) : (cardApplied l f t s).lanesBut l = s.lanesBut l := by
  unfold cardApplied
  exact inIdentifying_lanesBut _ _ _ _ fun v x t => rfl

@[simp] theorem takeCode_lanesBut (l : LaneId) (v : VisitIx) (p : Position) (conf : Nat) (c : Text) (x : Visit) (s : State) : (takeCode l v p conf c x s).lanesBut l = s.lanesBut l := by
  unfold takeCode
  try dsimp only
  repeat' split
  all_goals try dsimp only
  all_goals first | (simp only [State.addReason_lanesBut, State.modEntry_lanesBut, State.modVisit_lanesBut]; done) | (simp only [State.addReason_lanesBut, State.modEntry_lanesBut, State.modVisit_lanesBut]; rfl) | rfl

@[simp] theorem codeApplied_lanesBut (l : LaneId) (f : LaneFrame) (p : Position) (conf : Nat) (c : Text) (s : State) : (codeApplied l f p conf c s).lanesBut l = s.lanesBut l := by
  unfold codeApplied
  exact inIdentifying_lanesBut _ _ _ _ fun v x t => by simp only [takeCode_lanesBut]

@[simp] theorem keepRead_lanesBut (v : VisitIx) (p : Position) (r : ClosureRead) (s : State) (m : LaneId) : (keepRead v p r s).lanesBut m = s.lanesBut m := by
  unfold keepRead
  try dsimp only
  repeat' split
  all_goals try dsimp only
  all_goals first | (simp only [State.modEntry_lanesBut]; done) | (simp only [State.modEntry_lanesBut]; rfl) | rfl

@[simp] theorem closureApplied_lanesBut (l : LaneId) (f : LaneFrame) (p : Position) (r : ClosureRead) (s : State) : (closureApplied l f p r s).lanesBut l = s.lanesBut l := by
  unfold closureApplied
  try dsimp only
  repeat' split
  all_goals try dsimp only
  all_goals first | (simp only [completionTest_lanesBut, evaluateRead_lanesBut, keepRead_lanesBut, popHead_lanesBut, unexpected_lanesBut]; done) | (simp only [completionTest_lanesBut, evaluateRead_lanesBut, keepRead_lanesBut, popHead_lanesBut, unexpected_lanesBut]; rfl) | rfl

@[simp] theorem findApplied_lanesBut (l : LaneId) (f : LaneFrame) (n : BitVec 16) (g : Finding) (s : State) : (findApplied l f n g s).lanesBut l = s.lanesBut l := by
  unfold findApplied
  try dsimp only
  repeat' split
  all_goals try dsimp only
  all_goals first | (simp only [applyFinding_lanesBut, popHead_lanesBut, recordLane_lanesBut, testBound_lanesBut, unexpected_lanesBut]; done) | (simp only [applyFinding_lanesBut, popHead_lanesBut, recordLane_lanesBut, testBound_lanesBut, unexpected_lanesBut]; rfl) | rfl

@[simp] theorem sweepEndApplied_lanesBut (l : LaneId) (f : LaneFrame) (n : BitVec 16) (st : SweepStatus) (count : Nat) (s : State) : (sweepEndApplied l f n st count s).lanesBut l = s.lanesBut l := by
  unfold sweepEndApplied
  try dsimp only
  repeat' split
  all_goals try dsimp only
  all_goals first | (simp only [endSweep_lanesBut, popHead_lanesBut, recordLane_lanesBut, testBound_lanesBut, unexpected_lanesBut]; done) | (simp only [endSweep_lanesBut, popHead_lanesBut, recordLane_lanesBut, testBound_lanesBut, unexpected_lanesBut]; rfl) | rfl

@[simp] theorem clearBarrier_lanesBut (l : LaneId) (v : VisitIx) (s : State) : (clearBarrier l v s).lanesBut l = s.lanesBut l := by
  unfold clearBarrier
  try dsimp only
  repeat' split
  all_goals try dsimp only
  all_goals first | (simp only [lowerBarrier_lanesBut, State.modLcu_lanesBut, State.modVisit_lanesBut]; done) | (simp only [lowerBarrier_lanesBut, State.modLcu_lanesBut, State.modVisit_lanesBut]; rfl) | rfl

@[simp] theorem checkSequence_lanesBut (l : LaneId) (f : LaneFrame) (s : State) : (checkSequence l f s).lanesBut l = s.lanesBut l := by
  unfold checkSequence
  try dsimp only
  repeat' split
  all_goals try dsimp only
  all_goals first | (simp only [recordLane_lanesBut, State.modPort_lanesBut]; done) | (simp only [recordLane_lanesBut, State.modPort_lanesBut]; rfl) | rfl

@[simp] theorem enqueueFrame_lanesBut (l : LaneId) (f : LaneFrame) (s : State) : (enqueueFrame l f s).lanesBut l = s.lanesBut l := by
  unfold enqueueFrame
  try dsimp only
  repeat' split
  all_goals try dsimp only
  all_goals first | (simp only [recordLane_lanesBut, unexpected_lanesBut, State.modPort_lanesBut]; done) | (simp only [recordLane_lanesBut, unexpected_lanesBut, State.modPort_lanesBut]; rfl) | rfl

@[simp] theorem endSignWait_lanesBut (l : LaneId) (s : State) : (endSignWait l s).lanesBut l = s.lanesBut l := by
  unfold endSignWait
  try dsimp only
  repeat' split
  all_goals try dsimp only
  all_goals first | (simp only [State.modPort_lanesBut]; done) | (simp only [State.modPort_lanesBut]; rfl) | rfl

@[simp] theorem takeAckSign_lanesBut (l : LaneId) (f : LaneFrame) (echo : Byte) (s : State) : (takeAckSign l f echo s).lanesBut l = s.lanesBut l := by
  unfold takeAckSign
  try dsimp only
  repeat' split
  all_goals try dsimp only
  all_goals first | (simp only [endSignWait_lanesBut, handMark_lanesBut, recordLane_lanesBut, unexpected_lanesBut]; done) | (simp only [endSignWait_lanesBut, handMark_lanesBut, recordLane_lanesBut, unexpected_lanesBut]; rfl) | rfl

@[simp] theorem takeAckBarrier_lanesBut (l : LaneId) (f : LaneFrame) (echo : Byte) (pos : BarrierPos) (s : State) : (takeAckBarrier l f echo pos s).lanesBut l = s.lanesBut l := by
  unfold takeAckBarrier
  try dsimp only
  repeat' split
  all_goals try dsimp only
  all_goals first | (simp only [recordLane_lanesBut, unexpected_lanesBut, State.modPort_lanesBut]; done) | (simp only [recordLane_lanesBut, unexpected_lanesBut, State.modPort_lanesBut]; rfl) | rfl

@[simp] theorem routeFrame_lanesBut (l : LaneId) (f : LaneFrame) (s : State) : (routeFrame l f s).lanesBut l = s.lanesBut l := by
  unfold routeFrame
  try dsimp only
  repeat' split
  all_goals try dsimp only
  all_goals first | (simp only [addReady_lanesBut, enqueueFrame_lanesBut, recordLane_lanesBut, takeAckBarrier_lanesBut, takeAckSign_lanesBut]; done) | (simp only [addReady_lanesBut, enqueueFrame_lanesBut, recordLane_lanesBut, takeAckBarrier_lanesBut, takeAckSign_lanesBut]; rfl) | rfl

@[simp] theorem takeFrame_lanesBut (l : LaneId) (f : LaneFrame) (s : State) : (takeFrame l f s).lanesBut l = s.lanesBut l := by
  unfold takeFrame
  try dsimp only
  repeat' split
  all_goals try dsimp only
  all_goals first | (simp only [checkSequence_lanesBut, routeFrame_lanesBut]; done) | (simp only [checkSequence_lanesBut, routeFrame_lanesBut]; rfl) | rfl

@[simp] theorem laneComplete_lanesBut (l : LaneId) (bytes : List Byte) (s : State) : (laneComplete l bytes s).lanesBut l = s.lanesBut l := by
  unfold laneComplete
  try dsimp only
  repeat' split
  all_goals try dsimp only
  all_goals first | (simp only [recordLane_lanesBut, takeFrame_lanesBut]; done) | (simp only [recordLane_lanesBut, takeFrame_lanesBut]; rfl) | rfl

@[simp] theorem setLaneRx_lanesBut (l : LaneId) (rx : List Byte) (s : State) : (setLaneRx l rx s).lanesBut l = s.lanesBut l := by
  unfold setLaneRx
  try dsimp only
  repeat' split
  all_goals try dsimp only
  all_goals first | (simp only [State.modPort_lanesBut]; done) | (simp only [State.modPort_lanesBut]; rfl) | rfl

@[simp] theorem cutLaneFrame_lanesBut (l : LaneId) (bytes : List Byte) (s : State) : (cutLaneFrame l bytes s).lanesBut l = s.lanesBut l := by
  unfold cutLaneFrame
  try dsimp only
  repeat' split
  all_goals try dsimp only
  all_goals first | (simp only [recordLane_lanesBut, setLaneRx_lanesBut]; done) | (simp only [recordLane_lanesBut, setLaneRx_lanesBut]; rfl) | rfl

@[simp] theorem laneDown_lanesBut (l : LaneId) (s : State) : (laneDown l s).lanesBut l = s.lanesBut l := by
  unfold laneDown
  try dsimp only
  repeat' split
  all_goals try dsimp only
  all_goals first | (simp only [cutLaneFrame_lanesBut, State.modPort_lanesBut]; done) | (simp only [cutLaneFrame_lanesBut, State.modPort_lanesBut]; rfl) | rfl

@[simp] theorem laneUp_lanesBut (l : LaneId) (s : State) : (laneUp l s).lanesBut l = s.lanesBut l := by
  unfold laneUp
  try dsimp only
  repeat' split
  all_goals try dsimp only
  all_goals first | (simp only [State.modPort_lanesBut]; done) | (simp only [State.modPort_lanesBut]; rfl) | rfl

@[simp] theorem laneIdle_lanesBut (l : LaneId) (s : State) : (laneIdle l s).lanesBut l = s.lanesBut l := by
  unfold laneIdle
  try dsimp only
  repeat' split
  all_goals try dsimp only
  all_goals first | (simp only [cutLaneFrame_lanesBut]; done) | (simp only [cutLaneFrame_lanesBut]; rfl) | rfl

@[simp] theorem laneSent_lanesBut (l : LaneId) (s : State) : (laneSent l s).lanesBut l = s.lanesBut l := by
  unfold laneSent
  try dsimp only
  repeat' split
  all_goals try dsimp only
  all_goals first | (simp only [State.modPort_lanesBut]; done) | (simp only [State.modPort_lanesBut]; rfl) | rfl

@[simp] theorem expireSign_lanesBut (l : LaneId) (s : State) : (expireSign l s).lanesBut l = s.lanesBut l := by
  unfold expireSign
  try dsimp only
  repeat' split
  all_goals try dsimp only
  all_goals first | (simp only [endSignWait_lanesBut, recordLane_lanesBut]; done) | (simp only [endSignWait_lanesBut, recordLane_lanesBut]; rfl) | rfl

@[simp] theorem markBarrierDown_lanesBut (l : LaneId) (s : State) : (markBarrierDown l s).lanesBut l = s.lanesBut l := by
  unfold markBarrierDown
  try dsimp only
  repeat' split
  all_goals try dsimp only
  all_goals first | (simp only [State.modVisit_lanesBut]; done) | (simp only [State.modVisit_lanesBut]; rfl) | rfl

@[simp] theorem expireBarrier_lanesBut (l : LaneId) (s : State) : (expireBarrier l s).lanesBut l = s.lanesBut l := by
  unfold expireBarrier
  try dsimp only
  repeat' split
  all_goals try dsimp only
  all_goals first | (simp only [addCause_lanesBut, lowerBarrier_lanesBut, markBarrierDown_lanesBut]; done) | (simp only [addCause_lanesBut, lowerBarrier_lanesBut, markBarrierDown_lanesBut]; rfl) | rfl

@[simp] theorem expireWarmup_lanesBut (l : LaneId) (s : State) : (expireWarmup l s).lanesBut l = s.lanesBut l := by
  unfold expireWarmup
  try dsimp only
  repeat' split
  all_goals try dsimp only
  all_goals first | (simp only [enterClosed_lanesBut, recordLane_lanesBut]; done) | (simp only [enterClosed_lanesBut, recordLane_lanesBut]; rfl) | rfl

/-- A frame at the head, but for a CLEAR, leaves the other lanes. -/
theorem applyFrame_lanesBut (l : LaneId) (f : LaneFrame) (c : InFrame) (s : State) (h : c ≠ .clear) :
    (applyFrame l f c s).lanesBut l = s.lanesBut l := by
  unfold applyFrame
  split
  · exact arriveApplied_lanesBut _ _ _ _
  · exact plateApplied_lanesBut _ _ _ _ _
  · exact cardApplied_lanesBut _ _ _ _
  · exact codeApplied_lanesBut _ _ _ _ _ _
  · exact closureApplied_lanesBut _ _ _ _ _
  · exact findApplied_lanesBut _ _ _ _ _
  · exact sweepEndApplied_lanesBut _ _ _ _ _ _
  · exact absurd rfl h

/-- The head of a class that is not CLEAR's, applied, leaves the other lanes. -/
theorem applyHead_lanesBut (l : LaneId) (isClass : InFrame → Bool) (s : State) (h : isClass .clear = false) :
    (applyHead l isClass s).lanesBut l = s.lanesBut l := by
  unfold applyHead
  split
  · split
    · split
      · next hc => exact applyFrame_lanesBut l _ _ s fun e => by rw [e, h] at hc; cases hc
      · rfl
    · rfl
  · rfl

end Sys2Proof.Machine
end

