-- ==== Sys2Proof/Laws/Frames.lean ====
section
/-! SUPPORT. A complete frame on a quiet line has its effect once, at its last byte; what an effect that touches no link is followed by; a
request's row on an open link. -/

namespace Sys2Proof.Machine

/-- An effect that leaves the links alone is followed by the transmitters' choice and nothing else. -/
theorem serve_of_outer {s u : State} (h : Quiet s) (ho : u.outer = s.outer) : serve u = settle u := by
  obtain ⟨hset, hq⟩ := h
  obtain ⟨_, hT, hA⟩ := (settle_eq_self_iff s).1 hset
  apply serve_eq_settle
  intro j hj
  rw [settle_queue, link_of_outer ho]
  have hl := link_of_outer ho j
  cases j with
  | terminal =>
    simp only [State.link_terminal] at hl hj ⊢
    by_cases hf : s.term.state = .up ∧ s.term.tx = none
    · exact hq .terminal (reply_none_of_kickTerm hT hf.1 hf.2)
    · rw [settle_reply_term u (by rw [hl]; exact hf), hl] at hj
      exact hq .terminal hj
  | authority =>
    simp only [State.link_authority] at hl hj ⊢
    by_cases hf : s.auth.state = .up ∧ s.auth.tx = none
    · exact hq .authority (reply_none_of_kickAuth hA hf.1 hf.2)
    · rw [settle_reply_auth u (by rw [hl]; exact hf), hl] at hj
      exact hq .authority hj

/-! ### Lane frames -/

/-- The lane with the receiver's bytes replaced twice. -/
theorem setLaneRx_setLaneRx (l : LaneId) (a b : List Byte) (s : State) : setLaneRx l a (setLaneRx l b s) = setLaneRx l a s := by
  simp only [setLaneRx, State.modPort, State.modLane_modLane]

/-- The receiver's bytes as they are. -/
theorem setLaneRx_self (l : LaneId) (s : State) : setLaneRx l (s.lane l).port.rx s = s :=
  State.modLane_self s l (fun x => { x with port := { x.port with rx := (s.lane l).port.rx } }) rfl

/-- The receiver's bytes just set. -/
theorem rx_setLaneRx (l : LaneId) (a : List Byte) (s : State) : ((setLaneRx l a s).lane l).port.rx = a := by
  simp [setLaneRx, State.modPort, State.lane_modLane]

/-- The line's status with the receiver's bytes set. -/
theorem line_setLaneRx (l : LaneId) (a : List Byte) (s : State) : ((setLaneRx l a s).lane l).port.line = (s.lane l).port.line := by
  simp [setLaneRx, State.modPort, State.lane_modLane]

/-- A byte that ends no frame is kept. -/
theorem laneByte_more {l : LaneId} {s : State} {b : Byte} {rx : List Byte} (hup : (s.lane l).port.line = .up)
    (h : laneReceive (s.lane l).port.rx b = .more rx) : laneByte l s b = setLaneRx l rx s := by
  unfold laneByte; rw [if_pos hup, h]

/-- The first four bytes of a frame in HUNTING, its length within bounds. -/
theorem laneBytesIn_head {l : LaneId} {s : State} (hup : (s.lane l).port.line = .up) (hrx : (s.lane l).port.rx = [])
    (c q n : Byte) (hn : n.toNat ≤ Config.lanePayloadMax) :
    laneBytesIn l [Config.laneStart, c, q, n] s = setLaneRx l [Config.laneStart, c, q, n] s := by
  have hn' : ¬ Config.lanePayloadMax < n.toNat := by omega
  have e1 : laneByte l s Config.laneStart = setLaneRx l [Config.laneStart] s :=
    laneByte_more hup (by simp [laneReceive, hrx])
  have e2 : laneByte l (setLaneRx l [Config.laneStart] s) c = setLaneRx l [Config.laneStart, c] s := by
    rw [laneByte_more (rx := [Config.laneStart, c]) (by rw [line_setLaneRx]; exact hup) (by simp [laneReceive, rx_setLaneRx]),
      setLaneRx_setLaneRx]
  have e3 : laneByte l (setLaneRx l [Config.laneStart, c] s) q = setLaneRx l [Config.laneStart, c, q] s := by
    rw [laneByte_more (rx := [Config.laneStart, c, q]) (by rw [line_setLaneRx]; exact hup) (by simp [laneReceive, rx_setLaneRx]),
      setLaneRx_setLaneRx]
  have e4 : laneByte l (setLaneRx l [Config.laneStart, c, q] s) n = setLaneRx l [Config.laneStart, c, q, n] s := by
    rw [laneByte_more (rx := [Config.laneStart, c, q, n]) (by rw [line_setLaneRx]; exact hup)
      (by simp [laneReceive, rx_setLaneRx, laneLength, hn']), setLaneRx_setLaneRx]
  simp [laneBytesIn, e1, e2, e3, e4]

/-- The bytes that follow a frame's first four: kept until the last, which completes the frame. -/
theorem laneBytesIn_tail {l : LaneId} (c q n : Byte) (hn : n.toNat ≤ Config.lanePayloadMax) :
    ∀ (bs : List Byte) (acc : List Byte) (s : State), (s.lane l).port.line = .up →
      (s.lane l).port.rx = Config.laneStart :: c :: q :: n :: acc → bs ≠ [] → acc.length + bs.length = n.toNat + 2 →
      laneBytesIn l bs s = serve (laneComplete l (Config.laneStart :: c :: q :: n :: (acc ++ bs)) (setLaneRx l [] s))
  | [], _, _, _, _, h, _ => absurd rfl h
  | [b], acc, s, hup, hrx, _, hl => by
    have e : laneReceive (s.lane l).port.rx b = .complete (Config.laneStart :: c :: q :: n :: (acc ++ [b])) := by
      simp only [List.length_cons, List.length_nil] at hl
      have h1 : ¬ Config.lanePayloadMax < n.toNat := by omega
      have h2 : acc.length + 1 + 1 + 1 + 1 + 1 = n.toNat + 6 := by omega
      simp [laneReceive, hrx, laneLength, h1, h2]
    simp only [laneBytesIn, List.foldl_cons, List.foldl_nil, laneByte, hup, if_true, e]
  | b :: b' :: bs, acc, s, hup, hrx, _, hl => by
    simp only [List.length_cons] at hl
    have e : laneReceive (s.lane l).port.rx b = .more (Config.laneStart :: c :: q :: n :: (acc ++ [b])) := by
      have h1 : ¬ Config.lanePayloadMax < n.toNat := by omega
      have h2 : ¬ acc.length = n.toNat + 1 := by omega
      simp [laneReceive, hrx, laneLength, h1, h2]
    have ih := laneBytesIn_tail c q n hn (b' :: bs) (acc ++ [b])
      (setLaneRx l (Config.laneStart :: c :: q :: n :: (acc ++ [b])) s) (by rw [line_setLaneRx]; exact hup)
      (by rw [rx_setLaneRx]) (by simp) (by simp; omega)
    have : laneBytesIn l (b :: b' :: bs) s
        = laneBytesIn l (b' :: bs) (setLaneRx l (Config.laneStart :: c :: q :: n :: (acc ++ [b])) s) := by
      simp only [laneBytesIn, List.foldl_cons, laneByte_more hup e]
    rw [this, ih, setLaneRx_setLaneRx]
    simp

/-- A whole run of bytes of the length its length byte gives, on a line in HUNTING, is one complete frame (R5). -/
theorem laneBytesIn_complete {l : LaneId} {s : State} (hup : (s.lane l).port.line = .up) (hrx : (s.lane l).port.rx = [])
    (c q n : Byte) (bs : List Byte) (hn : n.toNat ≤ Config.lanePayloadMax) (hl : bs.length = n.toNat + 2) :
    laneBytesIn l (Config.laneStart :: c :: q :: n :: bs) s = serve (laneComplete l (Config.laneStart :: c :: q :: n :: bs) s) := by
  have e : laneBytesIn l (Config.laneStart :: c :: q :: n :: bs) s
      = laneBytesIn l bs (laneBytesIn l [Config.laneStart, c, q, n] s) := by
    simp [laneBytesIn]
  rw [e, laneBytesIn_head hup hrx c q n hn,
    laneBytesIn_tail c q n hn bs [] _ (by rw [line_setLaneRx]; exact hup) (by rw [rx_setLaneRx])
      (by intro h0; simp [h0] at hl) (by simp; omega),
    setLaneRx_setLaneRx]
  have := setLaneRx_self l s
  rw [hrx] at this
  rw [this]; simp

/-- A number of `w` bytes. -/
theorem num_length : ∀ (w n : Nat), (num w n).length = w
  | 0, _ => rfl
  | w + 1, n => by simp [num, num_length w n]

/-- The frame that a frame's own bytes hold. -/
theorem laneFrameOf_wire (f : LaneFrame) (h : f.payload.length ≤ Config.lanePayloadMax) : laneFrameOf f.wire = f := by
  have h' : f.payload.length % 256 = f.payload.length := Nat.mod_eq_of_lt (by simp [Config.lanePayloadMax] at h; omega)
  obtain ⟨c, q, p⟩ := f
  simp only at h'
  simp [laneFrameOf, LaneFrame.wire, LaneFrame.covered, laneLength, h']

/-- A well-formed frame on a line in HUNTING is taken (R5, R6). -/
theorem laneBytesIn_wire {l : LaneId} {s : State} (hup : (s.lane l).port.line = .up) (hrx : (s.lane l).port.rx = [])
    (f : LaneFrame) (h : f.payload.length ≤ Config.lanePayloadMax) : laneBytesIn l f.wire s = serve (takeFrame l f s) := by
  have h' : f.payload.length % 256 = f.payload.length := Nat.mod_eq_of_lt (by simp [Config.lanePayloadMax] at h; omega)
  have e : f.wire = Config.laneStart :: f.cls :: f.seq :: BitVec.ofNat 8 f.payload.length
      :: (f.payload ++ num 2 (crc16 f.covered).toNat) := by
    simp [LaneFrame.wire, LaneFrame.covered]
  have := laneBytesIn_complete hup hrx f.cls f.seq (BitVec.ofNat 8 f.payload.length)
    (f.payload ++ num 2 (crc16 f.covered).toNat) (by simpa [h'] using h) (by simp [num_length, h'])
  rw [← e] at this
  rw [this]
  unfold laneComplete
  rw [laneFrameOf_wire f h, if_pos rfl]

/-! ### Management frames -/

/-- A link changed twice. -/
theorem State.modLink_modLink (s : State) (k : Link) (f g : MgmtLink → MgmtLink) :
    (s.modLink k f).modLink k g = s.modLink k fun m => g (f m) := by cases k <;> rfl

/-- A link changed reads as changed. -/
@[simp] theorem State.link_modLink_self (s : State) (k : Link) (f : MgmtLink → MgmtLink) :
    (s.modLink k f).link k = f (s.link k) := by cases k <;> rfl

/-- The receiver's bytes as they are. -/
theorem setLinkRx_self (k : Link) (s : State) : setLinkRx k (s.link k).rx s = s := by cases k <;> rfl

/-- The receiver's bytes replaced twice. -/
theorem setLinkRx_setLinkRx (k : Link) (a b : List Byte) (s : State) : setLinkRx k a (setLinkRx k b s) = setLinkRx k a s := by
  simp only [setLinkRx, State.modLink_modLink]

/-- The receiver's bytes just set, the link's status as it was. -/
theorem link_setLinkRx (k : Link) (a : List Byte) (s : State) :
    ((setLinkRx k a s).link k).rx = a ∧ ((setLinkRx k a s).link k).state = (s.link k).state := by
  simp [setLinkRx]

/-- A byte that ends no frame is kept. -/
theorem mgmtByte_more {k : Link} {s : State} {b : Byte} {rx : List Byte} (hup : (s.link k).state = .up)
    (h : mgmtReceive (s.link k).rx b = .more rx) : mgmtByte k s b = setLinkRx k rx s := by
  unfold mgmtByte; rw [if_pos hup, h]

/-- The number two bytes give. -/
theorem ofBytes_num2 (n : Nat) (h : n < 65536) : ofBytes (num 2 n) = n := by
  simp [ofBytes, num]; omega

/-- The bytes after a frame's first five, kept until the last, which completes the frame; earlier bytes are kept too. -/
theorem mgmtBytes_run {k : Link} {kd tg h w : Byte} (hn : ofBytes [h, w] ≤ Config.bodyMax) :
    ∀ (bs acc : List Byte) (s : State), (s.link k).state = .up →
      (s.link k).rx = acc → bs ≠ [] → acc ++ bs = Config.mgmtStart :: kd :: tg :: h :: w :: (acc ++ bs).drop 5 →
      (acc ++ bs).length = ofBytes [h, w] + 9 →
      mgmtBytes k bs s = serve (mgmtComplete k (acc ++ bs) (setLinkRx k [] s))
  | [], _, _, _, _, h0, _, _ => absurd rfl h0
  | [b], acc, s, hup, hrx, _, hsh, hl => by
    have hne : acc ≠ [] := by intro e; subst e; simp at hl
    have hlen : mgmtLength (acc ++ [b]) = ofBytes [h, w] := by rw [hsh]; rfl
    have e : mgmtReceive (s.link k).rx b = .complete (acc ++ [b]) := by
      have h1 : ¬ Config.bodyMax < ofBytes [h, w] := by omega
      simp only [List.length_append, List.length_cons, List.length_nil] at hl
      simp [mgmtReceive, hrx, hne, hlen, h1, hl]
    simp only [mgmtBytes, List.foldl_cons, List.foldl_nil, mgmtByte, hup, if_true, e]
  | b :: b' :: bs, acc, s, hup, hrx, _, hsh, hl => by
    have e : mgmtReceive (s.link k).rx b = .more (acc ++ [b]) := by
      cases hacc : acc with
      | nil =>
        rw [hacc] at hsh
        simp only [List.nil_append, List.cons.injEq] at hsh
        simp [mgmtReceive, hrx, hacc, hsh.1]
      | cons a as =>
        rw [← hacc]
        have hne : acc ≠ [] := by rw [hacc]; simp
        by_cases h5 : acc.length + 1 < 5
        · simp [mgmtReceive, hrx, hne, h5]
        · have hlen : mgmtLength (acc ++ [b]) = ofBytes [h, w] := by
            have hs2 : acc ++ [b] ++ (b' :: bs) = Config.mgmtStart :: kd :: tg :: h :: w :: (acc ++ b :: b' :: bs).drop 5 := by
              simpa using hsh
            have h5' : 5 ≤ (acc ++ [b]).length := by simp; omega
            have : (acc ++ [b]).take 5 = [Config.mgmtStart, kd, tg, h, w] := by
              have := congrArg (List.take 5) hs2
              rwa [List.take_append_of_le_length h5'] at this
            have h3 : ((acc ++ [b]).drop 3).take 2 = [h, w] := by
              have e3 : ((acc ++ [b]).drop 3).take 2 = ((acc ++ [b]).take 5).drop 3 := by rw [List.drop_take]
              rw [e3, this]; rfl
            simp only [mgmtLength, h3]
          have h1 : ¬ Config.bodyMax < ofBytes [h, w] := by omega
          have h2 : ¬ acc.length = ofBytes [h, w] + 8 := by simp at hl; omega
          simp [mgmtReceive, hrx, hne, h5, hlen, h1, h2]
    have ih := mgmtBytes_run (k := k) (kd := kd) (tg := tg) hn (b' :: bs) (acc ++ [b]) (setLinkRx k (acc ++ [b]) s)
      (by rw [(link_setLinkRx k _ s).2]; exact hup) (link_setLinkRx k _ s).1 (by simp) (by simpa using hsh) (by simpa using hl)
    have : mgmtBytes k (b :: b' :: bs) s = mgmtBytes k (b' :: bs) (setLinkRx k (acc ++ [b]) s) := by
      simp only [mgmtBytes, List.foldl_cons, mgmtByte_more hup e]
    rw [this, ih, setLinkRx_setLinkRx]
    simp

/-- A whole run of bytes of the length its length bytes give, on a link in HUNTING, is one complete frame (R162). -/
theorem mgmtBytes_complete {k : Link} {s : State} (hup : (s.link k).state = .up) (hrx : (s.link k).rx = [])
    (kd tg h w : Byte) (bs : List Byte) (hn : ofBytes [h, w] ≤ Config.bodyMax) (hl : bs.length = ofBytes [h, w] + 4) :
    mgmtBytes k (Config.mgmtStart :: kd :: tg :: h :: w :: bs) s
      = serve (mgmtComplete k (Config.mgmtStart :: kd :: tg :: h :: w :: bs) s) := by
  have := mgmtBytes_run (k := k) (kd := kd) (tg := tg) hn (Config.mgmtStart :: kd :: tg :: h :: w :: bs) [] s hup hrx (by simp)
    (by simp) (by simp [hl])
  rw [this]
  have h0 := setLinkRx_self k s
  rw [hrx] at h0
  rw [h0, List.nil_append]

/-- The frame that a frame's own bytes hold. -/
theorem mgmtFrameOf_wire (f : MgmtFrame) (h : f.body.length ≤ Config.bodyMax) : mgmtFrameOf f.wire = f := by
  obtain ⟨kd, tg, b⟩ := f
  have hb : mgmtLength (MgmtFrame.wire ⟨kd, tg, b⟩) = b.length := by
    have : ((MgmtFrame.wire ⟨kd, tg, b⟩).drop 3).take 2 = num 2 b.length := by
      simp [MgmtFrame.wire, MgmtFrame.covered, num]
    rw [mgmtLength, this]
    exact ofBytes_num2 _ (by simp [Config.bodyMax] at h; omega)
  unfold mgmtFrameOf
  rw [hb]
  simp [MgmtFrame.wire, MgmtFrame.covered, num]

/-- A well-formed frame on a link in HUNTING is taken (R162, R163). -/
theorem mgmtBytes_wire {k : Link} {s : State} (hup : (s.link k).state = .up) (hrx : (s.link k).rx = []) (f : MgmtFrame)
    (h : f.body.length ≤ Config.bodyMax) : mgmtBytes k f.wire s = serve (mgmtComplete k f.wire s) := by
  have hl : f.body.length < 65536 := by simp [Config.bodyMax] at h; omega
  have e : f.wire = Config.mgmtStart :: f.kind :: f.tag :: BitVec.ofNat 8 (f.body.length / 256) :: BitVec.ofNat 8 f.body.length
      :: (f.body ++ num 4 (crc32 f.covered).toNat) := by
    simp [MgmtFrame.wire, MgmtFrame.covered, num]
  have hn : ofBytes [BitVec.ofNat 8 (f.body.length / 256), BitVec.ofNat 8 f.body.length] = f.body.length := by
    have := ofBytes_num2 f.body.length hl
    simpa [num] using this
  rw [e]
  exact mgmtBytes_complete hup hrx _ _ _ _ _ (by rw [hn]; exact h) (by simp [num_length, hn])

/-- A REQUEST frame on a link in HUNTING is a request accepted (R163). -/
theorem mgmtBytes_request {k : Link} {s : State} (hup : (s.link k).state = .up) (hrx : (s.link k).rx = []) (tag c : Byte)
    (body : List Byte) (h : body.length < Config.bodyMax) :
    mgmtBytes k (MgmtFrame.wire ⟨kindRequest, tag, c :: body⟩) s = arriveRequest k ⟨tag, c, body, parseRequest c body⟩ s := by
  have h' : body.length + 1 ≤ Config.bodyMax := h
  rw [mgmtBytes_wire hup hrx _ (by simpa using h')]
  unfold mgmtComplete arriveRequest
  rw [mgmtFrameOf_wire _ (by simpa using h')]
  simp [hup]

/-! ### Requests -/

/-- A request's row on an open link: the owner's answer and effect, and the transmitters' choice (R147, R164, R165). -/
theorem arriveRequest_owner {k : Link} {s : State} (h : OpenLink k s) (tag : Byte) (r : Request) (hk : k.knows r.code = true)
    (hd : deniedCode k r.code = false) :
    arriveRequest k (queuedOf tag r) s =
      settle ((owner k r s).2.replied k
        { tag := tag, code := r.code, status := (owner k r s).1.1, result := (owner k r s).1.2 }) := by
  rw [arriveRequest_open h]
  simp [runRequest, queuedOf, hk, hd]

end Sys2Proof.Machine
end

