-- ==== Sys2Proof/Laws/Payloads.lean ====
section
/-! SUPPORT. What each reader of a lane payload accepts: the layouts of 11.2, byte for byte, with the ranges of R13. -/

namespace Sys2Proof

/-- The two bytes of the number that two bytes give. -/
theorem num_ofBytes (a b : Byte) : num 2 (ofBytes [a, b]) = [a, b] := by
  have h1 := a.isLt; have h2 := b.isLt
  simp only [num, ofBytes, List.foldl]
  congr 1
  · apply BitVec.eq_of_toNat_eq; simp; omega
  · congr 1
    apply BitVec.eq_of_toNat_eq; simp; omega

/-- The two bytes of the word that two bytes make. -/
theorem num_append (a b : Byte) : num 2 (a ++ b).toNat = [a, b] := by
  have : (a ++ b).toNat = ofBytes [a, b] := by
    have h : (a ++ b).toNat = a.toNat <<< 8 ||| b.toNat := BitVec.toNat_append a b
    rw [h, ← Nat.shiftLeft_add_eq_or_of_lt b.isLt, Nat.shiftLeft_eq]; simp [ofBytes]
  rw [this, num_ofBytes]

/-- Two bytes are those of a number exactly when they give it. -/
theorem eq_num_two_iff (a b : Byte) (n : Nat) (h : n < 65536) : [a, b] = num 2 n ↔ ofBytes [a, b] = n := by
  constructor
  · intro h'
    simp [num] at h'
    rw [h'.1, h'.2]; simp [ofBytes]; omega
  · intro h'; rw [← h', num_ofBytes]

/-- A byte is that of a number below 256 exactly when it has its value. -/
theorem byte_eq_iff (b : Byte) (n : Nat) (h : n < 256) : b = BitVec.ofNat 8 n ↔ b.toNat = n := by
  constructor
  · intro h'; rw [h']; simp [Nat.mod_eq_of_lt h]
  · intro h'; rw [← h']; simp

/-- A reader of codes that undoes a coding, at the code a byte gives. -/
theorem ofCode_byte_iff {α : Type} (f : Nat → Option α) (g : α → Nat) (hf : ∀ n a, f n = some a ↔ n = g a) (hg : ∀ a, g a < 256)
    (b : Byte) (a : α) : f b.toNat = some a ↔ b = BitVec.ofNat 8 (g a) := by
  rw [hf, byte_eq_iff _ _ (hg a)]

/-- The load class a byte codes. -/
theorem LoadClass.ofCode_iff (b : Byte) (a : LoadClass) : LoadClass.ofCode b.toNat = some a ↔ b = BitVec.ofNat 8 a.toCode :=
  ofCode_byte_iff _ LoadClass.toCode (by intro n a; unfold LoadClass.ofCode; split <;> cases a <;> simp_all [LoadClass.toCode])
    (by intro a; cases a <;> decide) b a

/-- The position a byte codes. -/
theorem Position.ofCode_iff (b : Byte) (a : Position) : Position.ofCode b.toNat = some a ↔ b = BitVec.ofNat 8 a.toCode :=
  ofCode_byte_iff _ Position.toCode (by intro n a; unfold Position.ofCode; split <;> cases a <;> simp_all [Position.toCode])
    (by intro a; cases a <;> decide) b a

/-- The source a byte codes. -/
theorem Source.ofCode_iff (b : Byte) (a : Source) : Source.ofCode b.toNat = some a ↔ b = BitVec.ofNat 8 a.toCode :=
  ofCode_byte_iff _ Source.toCode (by intro n a; unfold Source.ofCode; split <;> cases a <;> simp_all [Source.toCode])
    (by intro a; cases a <;> decide) b a

/-- The tag state a byte codes. -/
theorem TagState.ofCode_iff (b : Byte) (a : TagState) : TagState.ofCode b.toNat = some a ↔ b = BitVec.ofNat 8 a.toCode :=
  ofCode_byte_iff _ TagState.toCode (by intro n a; unfold TagState.ofCode; split <;> cases a <;> simp_all [TagState.toCode])
    (by intro a; cases a <;> decide) b a

/-- The panel a byte codes. -/
theorem Panel.ofCode_iff (b : Byte) (a : Panel) : Panel.ofCode b.toNat = some a ↔ b = BitVec.ofNat 8 a.toCode :=
  ofCode_byte_iff _ Panel.toCode (by intro n a; unfold Panel.ofCode; split <;> cases a <;> simp_all [Panel.toCode])
    (by intro a; cases a <;> decide) b a

/-- The defect class a byte codes. -/
theorem Defect.ofCode_iff (b : Byte) (a : Defect) : Defect.ofCode b.toNat = some a ↔ b = BitVec.ofNat 8 a.toCode :=
  ofCode_byte_iff _ Defect.toCode (by intro n a; unfold Defect.ofCode; split <;> cases a <;> simp_all [Defect.toCode])
    (by intro a; cases a <;> decide) b a

/-- The sweep status a byte codes. -/
theorem SweepStatus.ofCode_iff (b : Byte) (a : SweepStatus) : SweepStatus.ofCode b.toNat = some a ↔ b = BitVec.ofNat 8 a.toCode :=
  ofCode_byte_iff _ SweepStatus.toCode (by intro n a; unfold SweepStatus.ofCode; split <;> cases a <;> simp_all [SweepStatus.toCode])
    (by intro a; cases a <;> decide) b a

/-- What a guarded value answers. -/
theorem guardSome_iff {α : Type} (c : Bool) (x y : α) : guardSome c x = some y ↔ c = true ∧ x = y := by
  unfold guardSome; cases c <;> simp

/-- The byte of a number of one byte. -/
theorem num_one (n : Nat) : num 1 n = [BitVec.ofNat 8 n] := by simp [num]

/-- The bytes of a number of two bytes. -/
theorem num_two (n : Nat) : num 2 n = [BitVec.ofNat 8 (n / 256), BitVec.ofNat 8 n] := by simp [num]

/-- A text of a length range is no longer than its upper end. -/
theorem textOk_length (t : Text) (lo hi : Nat) (h : textOk lo hi t = true) : t.length ≤ hi := by
  simp [textOk] at h; omega

/-- A payload is an ARRIVE exactly when it is the code of a load class (R13, 11.2). -/
theorem arrivePayload_iff (p : List Byte) (c : InFrame) :
    arrivePayload p = some c ↔ ∃ a : LoadClass, c = .arrive a ∧ p = num 1 a.toCode := by
  unfold arrivePayload
  split
  · rename_i l
    simp only [Option.map_eq_some_iff, LoadClass.ofCode_iff]
    constructor
    · rintro ⟨a, h, rfl⟩; exact ⟨a, rfl, by simp [num_one, h]⟩
    · rintro ⟨a, rfl, h⟩; exact ⟨a, by simpa [num_one] using h, rfl⟩
  · rename_i h
    constructor
    · simp
    · rintro ⟨a, rfl, h'⟩; exact absurd (by simpa [num_one] using h') (h _)

/-- A payload is a PLATE exactly when it is a confidence and a plate text (R13, 11.2). -/
theorem platePayload_iff (p : List Byte) (c : InFrame) :
    platePayload p = some c ↔ ∃ (n : Nat) (t : Text), c = .plate n t ∧ n ≤ 100 ∧ plateOk t = true ∧ p = num 1 n ++ textBytes t := by
  unfold platePayload
  split
  · rename_i a n t
    rw [guardSome_iff]
    constructor
    · rintro ⟨h, rfl⟩
      simp at h
      exact ⟨_, _, rfl, h.1.1, h.2, by simp [num_one, textBytes, ← h.1.2]⟩
    · rintro ⟨m, u, rfl, h1, h2, h3⟩
      simp [num_one, textBytes] at h3
      obtain ⟨rfl, rfl, rfl⟩ := h3
      have := textOk_length _ _ _ h2
      refine ⟨?_, ?_⟩
      · simp [h2, Nat.mod_eq_of_lt (show m < 256 by omega), h1]; omega
      · simp [Nat.mod_eq_of_lt (show m < 256 by omega)]
  · rename_i h
    constructor
    · simp
    · rintro ⟨a, t, rfl, _, _, h'⟩; exact absurd (by simpa [num_one, textBytes] using h') (h _ _ _)

/-- A payload is a CARD exactly when it is a card number as text (R13, 11.2). -/
theorem cardPayload_iff (p : List Byte) (c : InFrame) :
    cardPayload p = some c ↔ ∃ t : Text, c = .card t ∧ cardOk t = true ∧ p = textBytes t := by
  unfold cardPayload
  split
  · rename_i n t
    rw [guardSome_iff]
    constructor
    · rintro ⟨h, rfl⟩
      simp at h
      exact ⟨_, rfl, h.2, by simp [textBytes, ← h.1]⟩
    · rintro ⟨u, rfl, h2, h3⟩
      simp [textBytes] at h3
      obtain ⟨rfl, rfl⟩ := h3
      have : t.length ≤ 16 := by simp [cardOk] at h2; omega
      refine ⟨?_, rfl⟩
      simp [h2]; omega
  · rename_i h
    constructor
    · simp
    · rintro ⟨t, rfl, _, h'⟩; exact absurd (by simpa [textBytes] using h') (h _ _)

/-- A payload is a CODE exactly when it is a position, a confidence and a container code (R13, 11.2). -/
theorem codePayload_iff (p : List Byte) (c : InFrame) :
    codePayload p = some c ↔ ∃ (q : Position) (n : Nat) (t : Text), c = .code q n t ∧ n ≤ 100 ∧ codeForm t = true ∧ p = num 1 q.toCode ++ num 1 n ++ t := by
  unfold codePayload
  split
  · rename_i a n t
    simp only [Option.bind_eq_bind, Option.bind_eq_some_iff, Position.ofCode_iff, guardSome_iff]
    constructor
    · rintro ⟨q, rfl, h, rfl⟩
      simp at h
      exact ⟨_, _, _, rfl, h.1, h.2, by simp [num_one]⟩
    · rintro ⟨q, m, u, rfl, h1, h2, h3⟩
      simp [num_one] at h3
      obtain ⟨rfl, rfl, rfl⟩ := h3
      refine ⟨q, rfl, ?_, ?_⟩
      · simp [h2, Nat.mod_eq_of_lt (show m < 256 by omega), h1]
      · simp [Nat.mod_eq_of_lt (show m < 256 by omega)]
  · rename_i h
    constructor
    · simp
    · rintro ⟨a, n, t, rfl, _, _, h'⟩; exact absurd (by simpa [num_one] using h') (h _ _ _)

/-- A payload is a SWEEP_END exactly when it is a sweep number, a status and a finding count (R13, 11.2). -/
theorem sweepEndPayload_iff (p : List Byte) (c : InFrame) :
    sweepEndPayload p = some c ↔ ∃ (k : BitVec 16) (s : SweepStatus) (n : Nat), c = .sweepEnd k s n ∧ n ≤ 1023 ∧
      p = num 2 k.toNat ++ num 1 s.toCode ++ num 2 n := by
  unfold sweepEndPayload
  split
  · rename_i a b st d e
    simp only [Option.bind_eq_bind, Option.bind_eq_some_iff, SweepStatus.ofCode_iff, guardSome_iff]
    constructor
    · rintro ⟨q, rfl, h, rfl⟩
      simp at h
      exact ⟨_, _, _, rfl, h, by rw [num_append, num_ofBytes]; simp [num_one]⟩
    · rintro ⟨k, q, m, rfl, h1, h3⟩
      rw [num_two, num_one, num_two] at h3
      simp at h3
      obtain ⟨ha, hb, hc, hd, he⟩ := h3
      have hm : ofBytes [d, e] = m := (eq_num_two_iff _ _ _ (by omega)).1 (by rw [num_two, hd, he])
      refine ⟨q, hc, ?_, ?_⟩
      · simp [hm, h1]
      · have : a ++ b = k := by
          apply BitVec.eq_of_toNat_eq
          have h := num_append a b
          have : ofBytes [a, b] = k.toNat := (eq_num_two_iff a b k.toNat k.isLt).1 (by rw [num_two, ha, hb]; simp)
          rw [← this]
          have : (a ++ b).toNat = ofBytes [a, b] := by
            exact ((eq_num_two_iff a b (a++b).toNat (a++b).isLt).1 h.symm).symm
          exact this
        rw [hm, this]
  · rename_i h
    constructor
    · simp
    · rintro ⟨k, s, n, rfl, _, h'⟩; exact absurd (by simpa [num_one, num_two] using h') (h _ _ _ _ _)

/-- A payload is a CLEAR exactly when it is empty (R13, 11.2). -/
theorem clearPayload_iff (p : List Byte) (c : InFrame) :
    clearPayload p = some c ↔ c = .clear ∧ p = [] := by
  unfold clearPayload
  split
  · constructor
    · intro h; cases h; exact ⟨rfl, rfl⟩
    · rintro ⟨rfl, _⟩; rfl
  · rename_i h
    constructor
    · simp
    · rintro ⟨rfl, h'⟩; exact absurd h' h

/-- A payload is a FIND exactly when it is laid out as 11.2 has it, its fields in their ranges (R13). -/
theorem findPayload_iff (p : List Byte) (c : InFrame) :
    findPayload p = some c ↔ ∃ (k : BitVec 16) (q : Position) (pa : Panel) (z : Nat) (d : Defect) (sv x : Nat), c = .find k q pa z d sv x ∧
      z ≤ 15 ∧ sv ≤ 15 ∧ x ≤ 1023 ∧ p =
        num 2 k.toNat ++ num 1 q.toCode ++ num 1 pa.toCode ++ num 1 z ++ num 1 d.toCode ++ num 1 sv ++ num 2 x := by
  unfold findPayload
  split
  · rename_i a b p1 pa1 z1 d1 s1 d e
    simp only [Option.bind_eq_bind, Option.bind_eq_some_iff, Position.ofCode_iff, Panel.ofCode_iff, Defect.ofCode_iff, guardSome_iff]
    constructor
    · rintro ⟨q, rfl, pa, rfl, df, rfl, h, rfl⟩
      simp at h
      exact ⟨_, _, _, _, _, _, _, rfl, h.1.1, h.1.2, h.2, by rw [num_append, num_ofBytes]; simp [num_one]⟩
    · rintro ⟨k, q, pa, z, df, sv, m, rfl, h1, h2, h4, h3⟩
      simp only [num_one, num_two] at h3
      simp at h3
      obtain ⟨ha, hb, hc, hp, hz, hd1, hs, hd, he⟩ := h3
      have hm : ofBytes [d, e] = m := (eq_num_two_iff _ _ _ (by omega)).1 (by rw [num_two, hd, he])
      have : a ++ b = k := by
          apply BitVec.eq_of_toNat_eq
          have h := num_append a b
          have : ofBytes [a, b] = k.toNat := (eq_num_two_iff a b k.toNat k.isLt).1 (by rw [num_two, ha, hb]; simp)
          rw [← this]
          exact ((eq_num_two_iff a b (a++b).toNat (a++b).isLt).1 h.symm).symm
      have hz' : z1.toNat = z := (byte_eq_iff _ _ (by omega)).1 hz
      have hs' : s1.toNat = sv := (byte_eq_iff _ _ (by omega)).1 hs
      exact ⟨q, hc, pa, hp, df, hd1, by simp [hm, h1, h2, h4, hz', hs'], by rw [hm, this, hz', hs']⟩
  · rename_i h
    constructor
    · simp
    · rintro ⟨k, q, pa, z, df, sv, m, rfl, _, _, _, h'⟩; exact absurd (by simpa [num_one, num_two] using h') (h _ _ _ _ _ _ _ _ _)

/-- A payload is a CLOSURE exactly when it is a position, a source, with TAG a tag state, a confidence and a seal text (R13, 11.2). -/
theorem closurePayload_iff (p : List Byte) (c : InFrame) :
    closurePayload p = some c ↔ ∃ (q : Position) (sr : Source) (g : Option TagState) (n : Nat) (t : Text), c = .closure q sr g n t ∧ n ≤ 100 ∧
      sealOk t = true ∧ (sr = .tag ↔ g ≠ none) ∧ p =
        num 1 q.toCode ++ num 1 sr.toCode ++ (match g with | some g => num 1 g.toCode | none => []) ++ num 1 n ++ textBytes t := by
  unfold closurePayload
  split
  · rename_i a b rest
    simp only [Option.bind_eq_bind, Option.bind_eq_some_iff, Position.ofCode_iff]
    constructor
    · rintro ⟨q, rfl, sr, hs, h⟩
      rw [Source.ofCode_iff] at hs; subst hs
      split at h
      · simp only [Option.bind_eq_some_iff, TagState.ofCode_iff, guardSome_iff] at h
        obtain ⟨g, rfl, h, rfl⟩ := h
        simp at h
        exact ⟨_, _, _, _, _, rfl, h.1.1, h.2, by simp, by simp [num_one, textBytes, ← h.1.2]⟩
      · rw [guardSome_iff] at h
        obtain ⟨h, rfl⟩ := h
        simp at h
        exact ⟨_, _, _, _, _, rfl, h.1.1, h.2, by simp, by simp [num_one, textBytes, ← h.1.2]⟩
      · simp at h
    · rintro ⟨q, sr, g, n, t, rfl, h1, h2, hg, h3⟩
      have hl := textOk_length _ _ _ h2
      refine ⟨q, ?_, sr, ?_, ?_⟩
      · simp [num_one] at h3; exact h3.1
      · rw [Source.ofCode_iff]; simp [num_one] at h3; exact h3.2.1
      · cases sr <;> cases g <;> simp [num_one, textBytes] at h3 hg
        · obtain ⟨_, _, rfl⟩ := h3
          simp only [Option.bind_eq_some_iff, TagState.ofCode_iff, guardSome_iff]
          refine ⟨_, rfl, ?_, ?_⟩
          · simp [h2, Nat.mod_eq_of_lt (show n < 256 by omega), h1]; omega
          · simp [Nat.mod_eq_of_lt (show n < 256 by omega)]
        · obtain ⟨_, _, rfl⟩ := h3
          simp only [guardSome_iff]
          refine ⟨?_, ?_⟩
          · simp [h2, Nat.mod_eq_of_lt (show n < 256 by omega), h1]; omega
          · simp [Nat.mod_eq_of_lt (show n < 256 by omega)]
  · rename_i h
    constructor
    · simp
    · rintro ⟨q, sr, g, n, t, rfl, _, _, _, h'⟩; exact absurd (by simpa [num_one] using h') (h _ _ _)

end Sys2Proof
end

