-- ==== Sys2Proof/Laws/Requests.lean ====
section
/-! SUPPORT. One lemma per way a request command is answered: give what its owner answers, and Sends or Answers follows. -/

namespace Sys2Proof.Machine

/-- A request command is the arrival of its request on its link (log 3). -/
theorem exec_request {c : Instr} {k : Link} {tag : Byte} {r : Request} {s : State} (hc : requestOf c = some (k, tag, r)) :
    exec c s = .next (arriveRequest k (queuedOf tag r) s) := by
  cases c <;> simp only [requestOf, Option.some.injEq, Prod.mk.injEq, reduceCtorEq] at hc <;>
    (obtain ⟨h1, h2, h3⟩ := hc; subst h1; subst h2; subst h3; rfl)

/-- A request command on an open link is answered with what its owner answers, and every free transmitter then sends (R164, R147). -/
theorem sends_of_owner {k : Link} {c : Instr} {s u : State} {tag code : Byte} {r : Request} {st : Status} {res : List Byte}
    (h : OpenLink k s) (hc : requestOf c = some (k, tag, r)) (hcode : r.code = code) (hk : k.knows code = true)
    (hd : deniedCode k code = false) (ho : owner k r s = ((st, res), u)) : Sends k c s ⟨tag, code, st, res⟩ u := by
  subst hcode
  unfold Sends
  rw [exec_request hc, arriveRequest_owner h tag r hk hd, ho]

/-- A terminal request after whose effect the lane transmitters choose nothing is answered with exactly its effect. -/
theorem answers_terminal_of_lanes {c : Instr} {s u : State} {tag code : Byte} {r : Request} {st : Status} {res : List Byte}
    (h : OpenLink .terminal s) (hc : requestOf c = some (.terminal, tag, r))
    (hcode : r.code = code) (hk : Link.terminal.knows code = true) (hd : deniedCode .terminal code = false)
    (ho : owner .terminal r s = ((st, res), u)) (hp : transmitLanes u = u)
    (hA : u.auth = s.auth) (ha : u.attention = s.attention) (ht : u.term = s.term) :
    Answers .terminal c s ⟨tag, code, st, res⟩ u := by
  have h1 := sends_of_owner h hc hcode hk hd ho
  unfold Sends at h1
  unfold Answers
  rw [h1, settle_replied_terminal_of_lanes _ h hp hA ha ht]

/-- A terminal request whose effect gives the transmitters nothing new is answered with exactly its effect. -/
theorem answers_terminal {c : Instr} {s u : State} {tag code : Byte} {r : Request} {st : Status} {res : List Byte}
    (h : OpenLink .terminal s) (hc : requestOf c = some (.terminal, tag, r))
    (hcode : r.code = code) (hk : Link.terminal.knows code = true) (hd : deniedCode .terminal code = false)
    (ho : owner .terminal r s = ((st, res), u)) (hp : ∀ l : LaneId, (u.lane l).port = (s.lane l).port)
    (hA : u.auth = s.auth) (ha : u.attention = s.attention) (ht : u.term = s.term) :
    Answers .terminal c s ⟨tag, code, st, res⟩ u :=
  answers_terminal_of_lanes h hc hcode hk hd ho (transmitLanes_of_same ((settle_eq_self_iff s).1 h.1.1).1 hp) hA ha ht

/-- An authority request whose effect gives the transmitters nothing new is answered with exactly its effect. -/
theorem answers_authority {c : Instr} {s u : State} {tag code : Byte} {r : Request} {st : Status} {res : List Byte}
    (h : OpenLink .authority s) (hc : requestOf c = some (.authority, tag, r))
    (hcode : r.code = code) (hk : Link.authority.knows code = true) (hd : deniedCode .authority code = false)
    (ho : owner .authority r s = ((st, res), u)) (hp : ∀ l : LaneId, (u.lane l).port = (s.lane l).port)
    (hA : u.auth = s.auth) (ht : u.term = s.term) (hev : u.events = s.events) (hr : u.records = s.records) :
    Answers .authority c s ⟨tag, code, st, res⟩ u := by
  have h1 := sends_of_owner h hc hcode hk hd ho
  unfold Sends at h1
  unfold Answers
  rw [h1, settle_replied_authority _ h hp hA ht hev hr]

/-- A request that changes nothing is answered on an open link with exactly its reply. -/
theorem answers_same {k : Link} {c : Instr} {s : State} {tag code : Byte} {r : Request} {st : Status} {res : List Byte}
    (h : OpenLink k s) (hc : requestOf c = some (k, tag, r)) (hcode : r.code = code) (hk : k.knows code = true)
    (hd : deniedCode k code = false) (ho : owner k r s = ((st, res), s)) : Answers k c s ⟨tag, code, st, res⟩ s := by
  cases k with
  | terminal => exact answers_terminal h hc hcode hk hd ho (fun _ => rfl) rfl rfl rfl
  | authority => exact answers_authority h hc hcode hk hd ho (fun _ => rfl) rfl rfl rfl rfl

/-- The lane a number below 16 names. -/
@[simp] theorem laneOf_val (l : LaneId) : laneOf l.val = some l := by simp [laneOf, l.isLt]

/-- A number above 15 names no lane. -/
theorem laneOf_none {n : Nat} (h : 15 < n) : laneOf n = none := by simp [laneOf]; omega

/-- A request that names a lane by its number. -/
@[simp] theorem withLane_val (l : LaneId) (k : LaneId → State → Answer × State) (s : State) : withLane l.val k s = k l s := by
  simp [withLane]

/-- A request that names no lane is refused. -/
theorem withLane_none {n : Nat} (h : 15 < n) (k : LaneId → State → Answer × State) (s : State) :
    withLane n k s = refusedWith .badValue s := by simp [withLane, laneOf_none h]

/-- The record an index below 24 names. -/
@[simp] theorem visitIxOf_val (v : VisitIx) : visitIxOf v.val = some v := by simp [visitIxOf, v.isLt]

/-- The port a number below 18 names. -/
@[simp] theorem portOf_val (p : PortId) : portOf p.val = some p := by simp [portOf, p.isLt]

/-! ### The authority's owner, request by request (R147) -/

theorem owner_authority_addHold (c : Text) (k : HoldKind) (ref : Nat) (s : State) :
    owner .authority (.addHold c k ref) s = reqAddHold c k ref s := rfl
theorem owner_authority_removeHold (c : Text) (s : State) : owner .authority (.removeHold c) s = reqRemoveHold c s := rfl
theorem owner_authority_readHold (sel : HoldSel) (s : State) : owner .authority (.readHold sel) s = reqReadHold sel s := rfl
theorem owner_authority_readVisit (sel : VisitSel) (s : State) :
    owner .authority (.readVisit sel) s = reqAuthReadVisit sel s := rfl
theorem owner_authority_raiseNotice (f : BitVec 16) (s : State) :
    owner .authority (.raiseNotice f) s = reqRaiseNotice .authority f s := rfl
theorem owner_authority_clearNotice (f : BitVec 16) (s : State) :
    owner .authority (.clearNotice f) s = reqClearNotice .authority f s := rfl
theorem owner_authority_maskNotice (f : BitVec 16) (s : State) :
    owner .authority (.maskNotice f) s = reqMaskNotice .authority f s := rfl
theorem owner_authority_unmaskNotice (f : BitVec 16) (s : State) :
    owner .authority (.unmaskNotice f) s = reqUnmaskNotice .authority f s := rfl
theorem owner_authority_readNotice (s : State) : owner .authority .readNotice s = reqReadNotice .authority s := rfl
theorem owner_authority_writeSlot (i : Nat) (b : List Byte) (s : State) :
    owner .authority (.writeSlot i b) s = reqWriteSlot i b s := rfl
theorem owner_authority_readSlot (i : Nat) (s : State) : owner .authority (.readSlot i) s = reqReadSlot i s := rfl

end Sys2Proof.Machine
end

