-- ==== Sys2Proof/Laws/Quiet.lean ====
section
/-! SUPPORT. What serving adds to an effect: nothing is loaded, no record of a fault changes, and a lane the effect left alone stays as it was. -/

namespace Sys2Proof.Machine

/-- The terminal transmitter chooses once. -/
theorem kickTerm_kickTerm (s : State) : kickTerm (kickTerm s) = kickTerm s := by
  by_cases hf : s.term.state = .up ∧ s.term.tx = none
  · cases hr : s.term.reply with
    | some r => simp [kickTerm, hf, hr]
    | none =>
      cases he : s.firstEvent with
      | some e =>
        cases hrec : s.records with
        | nil => simp [kickTerm, hf, hr, chooseTerm, he, hrec, sendEvent, beginTerm, clearEvent]
        | cons r rs =>
          cases ht : s.turnRecord <;> simp [kickTerm, hf, hr, chooseTerm, he, hrec, ht, sendEvent, sendRecord, beginTerm, clearEvent]
      | none =>
        cases hrec : s.records with
        | nil => simp [kickTerm, hf, hr, chooseTerm, he, hrec]
        | cons r rs => simp [kickTerm, hf, hr, chooseTerm, he, hrec, sendRecord, beginTerm]
  · simp [kickTerm, hf]

/-- The authority transmitter chooses once. -/
theorem kickAuth_kickAuth (s : State) : kickAuth (kickAuth s) = kickAuth s := by
  by_cases hf : s.auth.state = .up ∧ s.auth.tx = none
  · cases hr : s.auth.reply with
    | some r => simp [kickAuth, hf, hr]
    | none => cases ha : s.attention <;> simp [kickAuth, hf, hr, ha]
  · simp [kickAuth, hf]

/-- The transmitters choose once. -/
theorem settle_settle (s : State) : settle (settle s) = settle s := by
  refine (settle_eq_self_iff _).2 ⟨?_, ?_, ?_⟩
  · have h := transmitLanes_transmitLanes s
    have hl : ((settle s).lanes.map (Lane.transmit (settle s).profiles)) = (settle s).lanes := by
      have e := congrArg State.lanes h
      simpa [settle, transmitLanes] using e
    unfold transmitLanes
    rw [hl]
  · unfold settle
    exact kickTerm_of_same (s := kickTerm (transmitLanes s)) (kickTerm_kickTerm _) (by simp) (by simp) (by simp)
  · exact kickAuth_kickAuth _

/-- The choice of the transmitters keeps, in a quiet part, the replies of the links an effect left alone. -/
theorem settle_reply_of_outer {s u : State} (h : Quiet s) (ho : u.outer = s.outer) (k : Link) :
    ((settle u).link k).reply = (s.link k).reply := by
  obtain ⟨hset, _⟩ := h
  obtain ⟨_, hT, hA⟩ := (settle_eq_self_iff s).1 hset
  have hl := link_of_outer ho k
  cases k
  · simp only [State.link_terminal] at hl ⊢
    by_cases hf : s.term.state = .up ∧ s.term.tx = none
    · have hr := reply_none_of_kickTerm hT hf.1 hf.2
      have hr' : u.term.reply = none := by rw [hl]; exact hr
      rw [hr]
      simp only [settle, kickAuth_term]
      unfold kickTerm chooseTerm sendEvent sendRecord beginTerm clearEvent
      repeat' split
      all_goals simp_all
    · rw [settle_reply_term u (by rw [hl]; exact hf), hl]
  · simp only [State.link_authority] at hl ⊢
    by_cases hf : s.auth.state = .up ∧ s.auth.tx = none
    · have hr := reply_none_of_kickAuth hA hf.1 hf.2
      have hr' : u.auth.reply = none := by rw [hl]; exact hr
      rw [hr]
      simp only [settle]
      unfold kickAuth
      repeat' split
      all_goals simp_all
    · rw [settle_reply_auth u (by rw [hl]; exact hf), hl]

/-- An effect that leaves the links alone, served on a quiet part, leaves it quiet (R164, R18). -/
theorem quiet_settle_of_outer {s u : State} (h : Quiet s) (ho : u.outer = s.outer) : Quiet (settle u) :=
  ⟨settle_settle u, fun k hk => by
    rw [settle_queue, link_of_outer ho]
    exact h.2 k (by rwa [settle_reply_of_outer h ho] at hk)⟩

/-- The transmitters' choice changes nothing that is loaded and no fault record. -/
theorem settle_aside (p : PortId) (s : State) : (settle s).aside p = s.aside p := by
  unfold settle
  rw [kickAuth_eq, kickTerm_eq]
  rfl

theorem settle_faults (s : State) : (settle s).faults = s.faults := by
  unfold settle
  rw [kickAuth_eq, kickTerm_eq]
  rfl

theorem settle_loaded (s : State) : (settle s).loaded = s.loaded := congrArg Prod.fst (settle_aside 0 s)

/-- A lane that is as in a settled part chooses nothing. -/
theorem settle_lane_of_same {s u : State} (h : transmitLanes s = s) (m : LaneId) (hm : u.lane m = s.lane m) :
    (settle u).lane m = s.lane m := by
  have e : (settle u).lane m = Lane.transmit u.profiles (u.lane m) := by
    simp [State.lane_eq, settle, transmitLanes]
  rw [e, hm]
  unfold Lane.transmit
  rw [port_settled h]

/-- The choice of the transmitters keeps the bytes being received. -/
theorem settle_rx (k : Link) (s : State) : ((settle s).link k).rx = (s.link k).rx := by
  cases k
  · simp only [State.link_terminal, settle, kickAuth_term]
    unfold kickTerm chooseTerm sendEvent sendRecord beginTerm clearEvent
    repeat' split
    all_goals rfl
  · simp only [State.link_authority, settle]
    unfold kickAuth
    repeat' split
    all_goals simp

/-- The bytes being received play no part in the lane transmitter's choice. -/
theorem Port.transmit_rx (a : Nat) (p : Port) (b : List Byte) :
    ({ p with rx := b } : Port).transmit a = { p.transmit a with rx := b } := by
  unfold Port.transmit
  dsimp only
  repeat' split
  all_goals (first | rfl | simp_all [Port.send])

/-- Bytes being received on a lane line leave a quiet part quiet. -/
theorem quiet_setLaneRx {l : LaneId} {rx : List Byte} {s : State} (h : Quiet s) : Quiet (setLaneRx l rx s) := by
  have h1 := (settle_eq_self_iff s).1 h.1
  refine ⟨(settle_eq_self_iff _).2 ⟨?_, ?_, ?_⟩, fun k => ?_⟩
  · refine transmitLanes_of_ports fun m a => ?_
    have e := port_settled h1.1 m a
    unfold setLaneRx State.modPort
    rw [State.lane_modLane]
    split
    · next hm =>
      subst hm
      dsimp only
      rw [Port.transmit_rx, e]
    · exact e
  · exact kickTerm_of_same h1.2.1 rfl rfl rfl
  · exact kickAuth_of_same h1.2.2 rfl rfl
  · intro hk; cases k
    · exact h.2 .terminal hk
    · exact h.2 .authority hk

/-- The record of a port that is aside. -/
theorem faults_of_aside {s t : State} {p q : PortId} (h : t.aside p = s.aside p) (hq : q ≠ p) :
    t.faults.get q = s.faults.get q := by
  have e := congrFun (congrArg Prod.snd h) q
  simp only [State.aside, if_neg hq] at e
  exact Option.some.inj e

end Sys2Proof.Machine
end

