-- ==== Sys2Proof/Laws/Visits.lean ====
section
/-! SUPPORT. Visit records: writes made one after another, what the searches over them find, and the closure outcome set in one write. -/

namespace Sys2Proof.Machine

/-! ### Writes to a visit record -/

/-- A visit record read after it is written. -/
@[simp] theorem State.visit_setVisit_self (s : State) (v : VisitIx) (x : Option Visit) : (s.setVisit v x).visit v = x := by
  rw [State.visit_setVisit, if_pos rfl]

/-- Another visit record read after one is written. -/
theorem State.visit_setVisit_of_ne (s : State) {v w : VisitIx} (x : Option Visit) (h : w ≠ v) :
    (s.setVisit v x).visit w = s.visit w := by
  rw [State.visit_setVisit, if_neg h]

/-- A visit record written twice. -/
@[simp] theorem State.setVisit_setVisit (s : State) (v : VisitIx) (x y : Option Visit) :
    (s.setVisit v x).setVisit v y = s.setVisit v y := by
  simp [State.setVisit]

/-- A visit record written with what it holds. -/
theorem State.setVisit_self {s : State} {v : VisitIx} {x : Option Visit} (h : s.visit v = x) : s.setVisit v x = s := by
  subst h
  have : s.visits.set v (s.visit v) = s.visits := by
    apply Vector.ext
    intro i hi
    rw [Vector.getElem_set]
    split
    · subst_vars; rfl
    · rfl
  unfold State.setVisit
  rw [this]

/-- An open visit changed is its record written. -/
theorem State.modVisit_of {s : State} {v : VisitIx} {x : Visit} (h : s.visit v = some x) (f : Visit → Visit) :
    s.modVisit v f = s.setVisit v (some (f x)) := by
  simp [State.modVisit, h]

/-- A FREE record stays as it is. -/
theorem State.modVisit_free {s : State} {v : VisitIx} (h : s.visit v = none) (f : Visit → Visit) : s.modVisit v f = s := by
  simp [State.modVisit, h, State.setVisit_self h]

/-- A visit changed twice. -/
@[simp] theorem State.modVisit_modVisit (s : State) (v : VisitIx) (f g : Visit → Visit) :
    (s.modVisit v f).modVisit v g = s.modVisit v fun x => g (f x) := by
  simp [State.modVisit, Function.comp_def]

/-- A carried entry of an open visit changed is its record written. -/
theorem State.modEntry_of {s : State} {v : VisitIx} {x : Visit} (h : s.visit v = some x) (p : Position) (f : Carried → Carried) :
    s.modEntry v p f = s.setVisit v (some (x.modEntry p f)) := State.modVisit_of h _

/-- A reason added to an open visit is its record written. -/
theorem State.addReason_of {s : State} {v : VisitIx} {x : Visit} (h : s.visit v = some x) (r : Reason) :
    s.addReason v r = s.setVisit v (some (x.addReason r)) := State.modVisit_of h _

/-- A carried entry changed twice, the first change keeping its position. -/
theorem Visit.modEntry_modEntry (x : Visit) (p : Position) (f g : Carried → Carried) (hf : ∀ e, (f e).position = e.position) :
    (x.modEntry p f).modEntry p g = x.modEntry p fun e => g (f e) := by
  simp only [Visit.modEntry, List.map_map]
  congr 1
  apply List.map_congr_left
  intro e _
  by_cases h : e.position = p <;> simp [h, hf]

/-- A step on an open visit. -/
theorem onVisit_of {s : State} {v : VisitIx} {x : Visit} (h : s.visit v = some x) (f : Visit → State → State) :
    onVisit v f s = f x s := by
  simp [onVisit, h]

/-! ### What the searches find -/

/-- The bound visit of a lane is open and bound to it (R45). -/
theorem State.bound_some {s : State} {l : LaneId} {v : VisitIx} {x : Visit} (h : s.bound l = some (v, x)) :
    s.visit v = some x ∧ x.lane = some l := by
  obtain ⟨w, -, hw⟩ := List.exists_of_findSome?_eq_some h
  split at hw
  · split at hw
    · simp only [Option.some.injEq, Prod.mk.injEq] at hw
      obtain ⟨rfl, rfl⟩ := hw
      exact ⟨‹_›, ‹_›⟩
    · cases hw
  · cases hw

/-- A lane without a bound visit: no open visit is bound to it (R45). -/
theorem State.bound_none {s : State} {l : LaneId} :
    s.bound l = none ↔ ∀ (v : VisitIx) (x : Visit), s.visit v = some x → x.lane ≠ some l := by
  unfold State.bound
  rw [List.findSome?_eq_none_iff]
  constructor
  · intro h v x hx hl
    have := h v (List.mem_finRange v)
    simp [hx, hl] at this
  · intro h v _
    split
    · rw [if_neg (h v _ ‹_›)]
    · rfl

/-- The visit found by a number is open and has it (R46). -/
theorem State.visitNumbered_some {s : State} {n : Nat} {v : VisitIx} {x : Visit} (h : s.visitNumbered n = some (v, x)) :
    s.visit v = some x ∧ x.number = n := by
  obtain ⟨w, -, hw⟩ := List.exists_of_findSome?_eq_some h
  split at hw
  · split at hw
    · simp only [Option.some.injEq, Prod.mk.injEq] at hw
      obtain ⟨rfl, rfl⟩ := hw
      exact ⟨‹_›, ‹_›⟩
    · cases hw
  · cases hw

/-- The record found FREE is FREE (R46). -/
theorem State.freeRecord_some {s : State} {v : VisitIx} (h : s.freeRecord = some v) : s.visit v = none := by
  have := List.find?_some h
  simpa using this

/-- No record is FREE (R47). -/
theorem State.freeRecord_none {s : State} : s.freeRecord = none ↔ ∀ v : VisitIx, s.visit v ≠ none := by
  unfold State.freeRecord
  rw [List.find?_eq_none]
  constructor
  · intro h v hv
    exact h v (List.mem_finRange v) (by simp [hv])
  · intro h v _ hn
    exact h v (by simpa using hn)

/-- A bay that no open visit holds (R58). -/
theorem State.bayHolder_none {s : State} {b : Nat} :
    s.bayHolder b = none ↔ ∀ (v : VisitIx) (x : Visit), s.visit v = some x → x.bay ≠ some b := by
  unfold State.bayHolder
  rw [List.findSome?_eq_none_iff]
  constructor
  · intro h v x hx hb
    have := h v (List.mem_finRange v)
    simp [hx, hb] at this
  · intro h v _
    split
    · rw [if_neg (h v _ ‹_›)]
    · rfl

/-- The FREE bay found is below the count, and no open visit holds it (R58). -/
theorem State.freeBay_some {s : State} {b : Nat} (h : s.freeBay = some b) :
    b < s.bayCount ∧ ∀ (v : VisitIx) (x : Visit), s.visit v = some x → x.bay ≠ some b := by
  have hm := List.mem_of_find?_eq_some h
  have hp := List.find?_some h
  exact ⟨List.mem_range.mp hm, State.bayHolder_none.mp (by simpa using hp)⟩

/-! ### Closure outcomes -/

/-- The reasons after a closure outcome is set (05, section 5.3). -/
def reasonsAfter (o : ClosureOutcome) (m : BitVec 32) : BitVec 32 :=
  match closureReason o with
  | some r => addBit m r.toCode
  | none => m

/-- A closure outcome set is one write to the visit record: the entry's outcome and the reason it adds. -/
theorem setClosure_of {s : State} {v : VisitIx} {x : Visit} (h : s.visit v = some x) (p : Position) (o : ClosureOutcome) :
    setClosure v p o s =
      s.setVisit v (some { x.modEntry p (fun d => { d with closure := o }) with reasons := reasonsAfter o x.reasons }) := by
  unfold setClosure reasonsAfter
  rw [State.modEntry_of h]
  cases closureReason o with
  | none => rfl
  | some r =>
    show State.addReason _ v r = _
    rw [State.addReason_of (State.visit_setVisit_self _ _ _), State.setVisit_setVisit]
    rfl

/-- What the reads held may decide (R104, R105). -/
theorem judgeRead_range (q : ClosureReq) (seals : List Text) (seen : List ClosureRead) (r : ClosureRead) :
    judgeRead q seals seen r = .pending ∨ judgeRead q seals seen r = .matched ∨ judgeRead q seals seen r = .broken ∨
      judgeRead q seals seen r = .mismatch := by
  cases q
  · simp [judgeRead]
  · simp only [judgeRead, judgeListed]; repeat' split
    all_goals simp
  · simp only [judgeRead, judgeIntact]; split <;> simp

/-- The reads held, judged one after another until one decides (R103, R106). -/
theorem judgeReads_cons (q : ClosureReq) (seals : List Text) (seen rest : List ClosureRead) (r : ClosureRead) :
    judgeReads q seals seen (r :: rest) =
      if judgeRead q seals seen r = .pending then judgeReads q seals (seen ++ [r]) rest else judgeRead q seals seen r := by
  simp only [judgeReads]
  split
  · rw [if_pos ‹_›]
  · rw [if_neg (by assumption)]

/-- What all the reads held may decide (R104, R105). -/
theorem judgeReads_range (q : ClosureReq) (seals : List Text) (rs : List ClosureRead) : ∀ seen : List ClosureRead,
    judgeReads q seals seen rs = .pending ∨ judgeReads q seals seen rs = .matched ∨ judgeReads q seals seen rs = .broken ∨
      judgeReads q seals seen rs = .mismatch := by
  induction rs with
  | nil => intro seen; exact .inl rfl
  | cons r rs ih =>
    intro seen
    rw [judgeReads_cons]
    split
    · exact ih _
    · exact judgeRead_range q seals seen r

end Sys2Proof.Machine
end

