-- ==== Sys2Proof/Tests/Slice0.lean ====
section
/-! SUPPORT. Tests: ill-formed commands, check values, single steps, and for every statement with hypotheses states that meet them. -/

namespace Sys2Proof.Tests

open Sys2Proof Sys2Proof.Machine

set_option Elab.async false

/-! ### Well-formedness: a command that each check refuses -/

/-- The container code CSQU3054383 (R1). -/
def code1 : Text := [0x43, 0x53, 0x51, 0x55, 0x33, 0x30, 0x35, 0x34, 0x33, 0x38, 0x33]

theorem test_illFormed_laneRequests : ∀ c ∈ ([
    .openLane 0 256 .inGate,
    .setDirection 0 256 .inGate,
    .closeLane 0 256,
    .stepLane 0 256,
    .resumeLane 0 256,
    .resetLane 0 256,
    .readLane 0 256,
    .assignProfile 0 256 0,
    .assignProfile 0 0 256,
    .readProfile 0 256] : List Instr), c.wf = false := by decide +kernel

theorem test_illFormed_profiles : ∀ c ∈ ([
    .writeProfile 0 256 Profile.default,
    .writeProfile 0 0 { Profile.default with warmup := 65536 },
    .writeProfile 0 0 { Profile.default with readWindow := 65536 },
    .writeProfile 0 0 { Profile.default with checkWindow := 65536 },
    .writeProfile 0 0 { Profile.default with barrierWindow := 65536 },
    .writeProfile 0 0 { Profile.default with signAck := 256 },
    .writeProfile 0 0 { Profile.default with plateThreshold := 256 },
    .writeProfile 0 0 { Profile.default with codeThreshold := 256 },
    .writeProfile 0 0 { Profile.default with audit := 256 }] : List Instr), c.wf = false := by decide +kernel

theorem test_illFormed_visits : ∀ c ∈ ([
    .setVerdict 0 256 .refer,
    .resolve 0 65536 .reject,
    .cancelVisit 0 65536,
    .readVisit 0 (.number 65536),
    .readVisit 0 (.index 256),
    .setBays 0 256,
    .authReadVisit 0 (.number 65536)] : List Instr), c.wf = false := by decide +kernel

theorem test_illFormed_bookings : ∀ c ∈ ([
    .loadBooking 0 { ref := 4294967296, kind := .drop, code := code1, card := none, plate := none, window := 0, closure := .noCheck, yard := 0 },
    .loadBooking 0 { ref := 1, kind := .drop, code := [], card := none, plate := none, window := 0, closure := .noCheck, yard := 0 },
    .loadBooking 0 { ref := 1, kind := .drop, code := code1, card := some (List.replicate 256 0x41#8), plate := none, window := 0, closure := .noCheck, yard := 0 },
    .loadBooking 0 { ref := 1, kind := .drop, code := code1, card := none, plate := some (List.replicate 256 0x41#8), window := 0, closure := .noCheck, yard := 0 },
    .loadBooking 0 { ref := 1, kind := .drop, code := code1, card := none, plate := none, window := 256, closure := .noCheck, yard := 0 },
    .loadBooking 0 { ref := 1, kind := .drop, code := code1, card := none, plate := none, window := 0, closure := .noCheck, yard := 256 },
    .cancelBooking 0 4294967296,
    .purgeBooking 0 4294967296,
    .readBooking 0 (.ref 4294967296),
    .readBooking 0 (.index 65536),
    .findBooking 0 [] .drop] : List Instr), c.wf = false := by decide +kernel

theorem test_illFormed_windows : ∀ c ∈ ([
    .loadWindow 0 256 0 1 1,
    .loadWindow 0 0 16777216 1 1,
    .loadWindow 0 0 0 256 1,
    .loadWindow 0 0 0 1 256,
    .removeWindow 0 256,
    .readWindow 0 256,
    .setClock 0 16777216 0,
    .setClock 0 0 256,
    .setSlack 0 256 0,
    .setSlack 0 0 256] : List Instr), c.wf = false := by decide +kernel

theorem test_illFormed_closures : ∀ c ∈ ([
    .loadClosure 0 [] [[0x41]],
    .loadClosure 0 code1 (List.replicate 256 [0x41]),
    .loadClosure 0 code1 [(List.replicate 256 0x41#8)],
    .removeClosure 0 [],
    .setRetain 0 [] true,
    .readClosure 0 (.code []),
    .readClosure 0 (.index 65536),
    .readClosure 0 (.rank 65536)] : List Instr), c.wf = false := by decide +kernel

theorem test_illFormed_rulesDirectionsMessages : ∀ c ∈ ([
    .writeRule 0 256 Rule.default,
    .writeRule 0 0 { Rule.default with a := { Rule.default.a with value := 65536 } },
    .writeRule 0 0 { Rule.default with b := some { Rule.default.a with value := 65536 } },
    .writeRule 0 0 { Rule.default with tolerance := 256 },
    .readRule 0 256,
    .readSweep 0 256,
    .writeDirection 0 256 ⟨.refer, none, 0, .left⟩,
    .writeDirection 0 0 ⟨.refer, none, 256, .left⟩,
    .writeDirection 0 0 ⟨.refer, some 255, 0, .left⟩,
    .clearDirection 0 256,
    .readDirection 0 256,
    .writeMessage 0 256 [],
    .writeMessage 0 0 (List.replicate 256 0x41#8),
    .readMessage 0 256] : List Instr), c.wf = false := by decide +kernel

theorem test_illFormed_holdsSlotsFaults : ∀ c ∈ ([
    .addHold .authority 0 [] .customs 0,
    .addHold .authority 0 code1 .customs 4294967296,
    .removeHold .authority 0 [],
    .readHold .terminal 0 (.code []),
    .readHold .terminal 0 (.index 65536),
    .writeSlot .terminal 0 256 [],
    .writeSlot .terminal 0 0 (List.replicate 1023 0),
    .readSlot .terminal 0 256,
    .clearFaults 0 256 0,
    .clearFaults 0 16 256,
    .setFaultMask 0 256 0,
    .setFaultMask 0 17 256,
    .setFaultSeverity 0 256 0,
    .readFaults 0 256,
    .unknownRequest .terminal 0 0xFF (List.replicate 1024 0)] : List Instr), c.wf = false := by decide +kernel

theorem test_illFormed_holdLane : Request.wf (.holdLane 256) = false := by decide

/-! ### Check values -/

/-- The check values over 123456789 that are published for CRCs of R182's parameters; the manual writes none out. -/
theorem test_crc_checkValues :
    crc16 [0x31, 0x32, 0x33, 0x34, 0x35, 0x36, 0x37, 0x38, 0x39] = 0x29B1#16 ∧
    crc32 [0x31, 0x32, 0x33, 0x34, 0x35, 0x36, 0x37, 0x38, 0x39] = 0xFC891918#32 := by decide +kernel

/-- The four codes whose check digit R1 gives: CSQU305438, MRKU204417, MRKU204425 and TLNU418270. -/
theorem test_checkDigits :
    checkValue code1 = 3 ∧
    checkValue [0x4D, 0x52, 0x4B, 0x55, 0x32, 0x30, 0x34, 0x34, 0x31, 0x37] = 2 ∧
    checkValue [0x4D, 0x52, 0x4B, 0x55, 0x32, 0x30, 0x34, 0x34, 0x32, 0x35] = 4 ∧
    checkValue [0x54, 0x4C, 0x4E, 0x55, 0x34, 0x31, 0x38, 0x32, 0x37, 0x30] = 9 := by decide +kernel

/-! ### The queue of commands -/

theorem test_noRowHasBits : decodeTableWord 8 0x10 = none := by decide
theorem test_withFetchWord : State.withFetchWord State.reset 8 0x10 = State.reset := rfl
theorem test_stepFront : step (State.reset.withCommand .tick) = exec .tick State.reset := rfl
theorem test_stepIdle : step State.reset = .next State.reset := rfl


/-! ### States for the tests, and hypotheses as data -/

/-- Lane 3 of the part after reset changed by `f`. -/
def lane3 (f : Lane → Lane) : State := State.reset.modLane 3 f

/-- Lane 3 in a mode, with a target mode. -/
def inMode (m : LaneMode) (t : Option LaneMode) (x : Lane) : Lane := { x with lcu := { x.lcu with mode := m, target := t } }

/-- Lane 3 in OPEN_IN with its port and control unit changed. -/
def open3 (p : Port → Port) (u : Lcu → Lcu) : State :=
  lane3 fun x => { x with port := p x.port, lcu := { u x.lcu with mode := .openIn } }

/-- A carried entry with code CSQU3054383. -/
def carried (p : Position) : Carried where
  position := p
  code := code1
  confidence := 80
  codeValid := true
  booking := none
  closureReq := none
  closureIx := none
  reads := []
  closure := .pending
  damage := .pending
  fired := 0
  findings := 0
  worst := none
  reslot := none
  holdKind := none

/-- A visit numbered 1 bound to lane 3, in a state, with a verdict. -/
def visit3 (st : VisitState) (vd : Option Verdict) : Visit where
  number := 1
  state := st
  lane := some 3
  grantLane := 3
  dir := .inGate
  load := .one
  arrival := none
  plate := none
  card := none
  carried := []
  picks := []
  reasons := 0
  verdict := vd
  bay := none
  lastBay := none
  barrierDown := false
  holdsSeen := 0
  rereaded := false
  undirected := false
  t2Verdict := none
  t2Clear := none
  record := none

/-- A visit in CHECKING with one carried entry. -/
def checking3 : Visit := { visit3 .checking none with carried := [carried .single] }

/-- A REFERRED visit numbered 65535 with one carried entry. -/
def referred1 : Visit := { visit3 .referred (some .refer) with number := 65535, lane := none, carried := [carried .single] }

/-- A record of a cancelled visit. -/
def record1 : GateRecord where
  number := 1
  lane := 3
  dir := .inGate
  outcome := .cancelled
  plate := none
  card := none
  carried := []
  picks := []
  reasons := 0
  arrival := none
  t2Verdict := none
  t2Clear := none
  bay := none
  holdsSeen := 0
  undirected := false

/-- The part with the visit in record 0. -/
def withVisit (x : Visit) (s : State) : State := s.setVisit 0 (some x)

/-- The part with visits, none bound to a lane, in all 24 records. -/
def fullTable (s : State) : State :=
  { s with visits := Vector.ofFn fun i : Fin 24 => some { visit3 .referred (some .refer) with number := i.val + 1, lane := none } }

/-- The part with the Gate Clock SET. -/
def clocked (m c n : Nat) : State := { State.reset with clock := some ⟨m, c, n⟩ }

/-- A booking of CSQU3054383 in window 0, in a state. -/
def booking1 (st : BookingState) : Booking where
  ref := 7
  kind := .drop
  code := code1
  card := none
  plate := none
  window := 0
  closure := .listed
  yard := 0
  state := st
  heldFrom := none
  holder := none

/-- The fields that load that booking. -/
def load1 : BookingLoad where
  ref := 7
  kind := .drop
  code := code1
  card := none
  plate := none
  window := 0
  closure := .listed
  yard := 254

/-- The part with that booking at index 0 and window 0 loaded with capacity 2 and one use. -/
def booked (st : BookingState) : State :=
  { State.reset with bookings := [(0, booking1 st)], windows := State.reset.windows.set 0 (some ⟨100, 60, 2, 1⟩) }

/-- The part with a list of one seal for CSQU3054383 at index 0. -/
def sealed (pins : Nat) : State :=
  { State.reset with closures := [(0, ⟨code1, [[0x41]], false, pins⟩)], recency := [0] }

/-- A full Closure Table whose entries carry other codes, retained or not. -/
def fullClosures (retain : Bool) : State :=
  { State.reset with
    closures := (List.range 1024).map fun i => (i, ⟨0x30 :: num 10 i, [[0x41]], retain, 0⟩)
    recency := List.range 1024 }

theorem fullClosures_codes (retain : Bool) : ∀ p ∈ (fullClosures retain).closures, p.2.code ≠ code1 := by
  intro p hp
  simp only [fullClosures, List.mem_map] at hp
  obtain ⟨i, -, rfl⟩ := hp
  simp [code1]

theorem fullClosures_length (retain : Bool) : 1024 ≤ (fullClosures retain).closures.length := by
  simp [fullClosures]

theorem lookup_mem {α : Type} : ∀ (t : Table α) (i : Nat) (x : α), Table.lookup t i = some x → (i, x) ∈ t
  | [], _, _, h => by simp [Table.lookup] at h
  | (j, y) :: t, i, x, h => by
    rw [Table.lookup] at h
    split at h
    · simp_all
    · exact List.mem_cons_of_mem _ (lookup_mem t i x h)

theorem fullClosures_victim : (fullClosures true).victim = none := by
  unfold State.victim
  rw [List.find?_eq_none]
  intro i _
  cases h : Table.lookup (fullClosures true).closures i with
  | none => simp
  | some e =>
    have hm := lookup_mem _ _ _ h
    simp only [fullClosures, List.mem_map] at hm
    obtain ⟨j, -, hj⟩ := hm
    obtain ⟨rfl, rfl⟩ := hj
    simp

/-- The port's transmitter has nothing it could send. -/
def portIdle (p : Port) : Bool :=
  p.line == .down || p.tx.isSome || (p.hpBarrier.isNone && (p.hpShow.isNone || p.signWait.isSome) && p.hpSweep.isNone
    && p.hpReread.isNone && !p.hpWake)

/-- A link's transmitter has nothing it could send, and no request waits beside an empty reply holding place. -/
def linkIdle (m : MgmtLink) (nothing : Bool) : Bool :=
  (m.state == .down || m.tx.isSome || (m.reply.isNone && nothing)) && (m.reply.isSome || m.queue.isEmpty)

/-- The part is quiet, as a Bool that is quick to compute. -/
def quiet (s : State) : Bool :=
  allLanes.all (fun l => portIdle (s.lane l).port) && linkIdle s.term (s.firstEvent.isNone && s.records.isEmpty)
    && linkIdle s.auth !s.attention

theorem portIdle_transmit {p : Port} (h : portIdle p = true) (a : Nat) : p.transmit a = p := by
  unfold Port.transmit
  by_cases hf : p.line = .up ∧ p.tx = none
  · obtain ⟨h1, h2⟩ := hf
    cases hw : p.signWait <;> cases hs : p.hpShow <;> simp_all [portIdle]
  · rw [if_neg hf]

theorem linkIdle_queue {m : MgmtLink} {b : Bool} (h : linkIdle m b = true) (hr : m.reply = none) : m.queue = [] := by
  simp only [linkIdle, Bool.and_eq_true, hr, Option.isSome_none, Bool.false_or, List.isEmpty_iff] at h
  exact h.2

theorem quiet_of {s : State} (h : quiet s = true) : Quiet s := by
  simp only [quiet, Bool.and_eq_true, List.all_eq_true, allLanes, List.mem_finRange, forall_const] at h
  obtain ⟨⟨hl, ht⟩, ha⟩ := h
  refine ⟨(settle_eq_self_iff s).2 ⟨transmitLanes_of_ports fun l a => portIdle_transmit (hl l) a, ?_, ?_⟩, fun k => ?_⟩
  · unfold kickTerm chooseTerm
    by_cases hf : s.term.state = .up ∧ s.term.tx = none
    · obtain ⟨h1, h2⟩ := hf
      simp_all [linkIdle]
    · rw [if_neg hf]
  · unfold kickAuth
    by_cases hf : s.auth.state = .up ∧ s.auth.tx = none
    · obtain ⟨h1, h2⟩ := hf
      simp_all [linkIdle]
    · rw [if_neg hf]
  · cases k
    · exact linkIdle_queue ht
    · exact linkIdle_queue ha

theorem openLink_of {k : Link} {s : State} (h : (quiet s && decide ((s.link k).state = .up ∧ (s.link k).reply = none)) = true) :
    OpenLink k s := by
  simp only [Bool.and_eq_true, decide_eq_true_eq] at h
  exact ⟨quiet_of h.1, h.2⟩

theorem hearingLink_of {k : Link} {s : State} (h : (quiet s && decide ((s.link k).state = .up ∧ (s.link k).rx = [])) = true) :
    HearingLink k s := by
  simp only [Bool.and_eq_true, decide_eq_true_eq] at h
  exact ⟨quiet_of h.1, h.2⟩

theorem hearing_of {l : LaneId} {s : State}
    (h : (quiet s && decide ((s.lane l).port.line = .up ∧ (s.lane l).port.rx = [])) = true) : Hearing l s := by
  simp only [Bool.and_eq_true, decide_eq_true_eq] at h
  exact ⟨quiet_of h.1, h.2⟩

theorem headReady_of {l : LaneId} {f : LaneFrame} {c : InFrame} {s : State}
    (h : (quiet s && decide (((s.lane l).lcu.mode = .openIn ∨ (s.lane l).lcu.mode = .openOut ∨
        ((s.lane l).lcu.mode = .draining ∧ (s.bound l).isSome = true)) ∧
      (s.lane l).lcu.holds = 0 ∧ l ∉ s.parked ∧ (s.lane l).port.queue.head? = some f ∧ f.content = .visit c)) = true) :
    HeadReady l f c s := by
  simp only [Bool.and_eq_true, decide_eq_true_eq, Option.isSome_iff_exists] at h
  exact ⟨quiet_of h.1, h.2⟩

theorem all_some {α : Type} (o : Option α) (P : α → Prop) : (∀ x, o = some x → P x) ↔ ∀ x ∈ o.toList, P x := by
  cases o <;> simp

theorem all_pair {α β : Type} (o : Option (α × β)) (P : α → β → Prop) :
    (∀ a b, o = some (a, b) → P a b) ↔ ∀ p ∈ o.toList, P p.1 p.2 := by
  cases o with
  | none => simp
  | some p => simp [Prod.ext_iff]

/-- The state a command leads to. -/
def after (c : Instr) (s : State) : State := match exec c s with | .next t => t | _ => s

/-! ### States that meet the hypotheses of each statement, clause by clause -/

theorem test_hyps_StepRunsTheFrontCommand :
    ((State.reset.withCommand .tick).pending = .tick :: []) ∧
    (State.reset.pending = []) :=
  ⟨by decide +kernel,
    by decide +kernel⟩

theorem test_hyps_TicksAndSeconds :
    (Quiet State.reset) ∧
    (∃ s : State, Quiet s ∧ s.clock = none) ∧
    (∃ s : State, Quiet s ∧ s.clock = some ⟨0, 0, 9⟩) ∧
    (∃ s : State, Quiet s ∧ s.clock = some ⟨0, 58, 10⟩) ∧
    (∃ s : State, Quiet s ∧ s.clock = some ⟨1048574, 59, 10⟩) ∧
    (∃ s : State, Quiet s ∧ s.clock = some ⟨1048575, 59, 10⟩) :=
  ⟨quiet_of (by decide +kernel),
    ⟨State.reset,
    quiet_of (by decide +kernel), by decide +kernel⟩,
    ⟨(clocked 0 0 9),
    quiet_of (by decide +kernel), by decide +kernel⟩,
    ⟨(clocked 0 58 10),
    quiet_of (by decide +kernel), by decide +kernel⟩,
    ⟨(clocked 1048574 59 10),
    quiet_of (by decide +kernel), by decide +kernel⟩,
    ⟨(clocked 1048575 59 10),
    quiet_of (by decide +kernel), by decide +kernel⟩⟩

theorem test_hyps_LaneLinesAndCutFrames_lines :
    (∃ s : State, Quiet s ∧ (s.lane 3).port.line = .up ∧ (s.lane 3).port.rx = []) ∧
    (∃ s : State, Quiet s ∧ (s.lane 3).port.line = .up ∧ (s.lane 3).port.rx ≠ []) ∧
    (∃ s : State, Quiet s ∧ (s.lane 3).port.line = .down) :=
  ⟨⟨State.reset,
    quiet_of (by decide +kernel), by decide +kernel⟩,
    ⟨(open3 (fun p => { p with rx := [0xA5] }) id),
    quiet_of (by decide +kernel), by decide +kernel⟩,
    ⟨(lane3 fun x => { x with port := { x.port with line := .down } }),
    quiet_of (by decide +kernel), by decide +kernel⟩⟩

theorem test_hyps_LaneLinesAndCutFrames_frames :
    (∃ s : State, Quiet s ∧ (s.lane 3).port.rx ≠ []) ∧
    (∃ s : State, Quiet s ∧ (s.lane 3).port.rx = []) ∧
    (∃ s : State, Hearing 3 s ∧ 120 < (121#8).toNat) ∧
    (∃ s : State, Hearing 3 s ∧ (120#8).toNat ≤ 120) :=
  ⟨⟨(open3 (fun p => { p with rx := [0xA5] }) id),
    quiet_of (by decide +kernel), by decide +kernel⟩,
    ⟨State.reset,
    quiet_of (by decide +kernel), by decide +kernel⟩,
    ⟨State.reset,
    hearing_of (by decide +kernel), by decide +kernel⟩,
    ⟨State.reset,
    hearing_of (by decide +kernel), by decide +kernel⟩⟩

theorem test_hyps_VisitFramesReceived_taken :
    (∃ s : State, Hearing 3 s ∧ LaneFrame.content ⟨0x08, 0, []⟩ = .visit .clear ∧ InSequence 3 0 s ∧ (s.lane 3).lcu.mode ≠ .closed ∧
      (s.lane 3).port.queue.length < 16) ∧
    (∃ s : State, Hearing 3 s ∧ LaneFrame.content ⟨0x08, 0, []⟩ = .visit .clear ∧ ¬ InSequence 3 0 s ∧
      (s.lane 3).lcu.mode ≠ .closed ∧ (s.lane 3).port.queue.length < 16) :=
  ⟨⟨(open3 (fun p => { p with lastIn := some 255, queue := List.replicate 15 ⟨0x08, 0, []⟩ }) id),
    hearing_of (by decide +kernel), by simp only [InSequence, all_some]; decide +kernel⟩,
    ⟨(open3 (fun p => { p with lastIn := some 0, queue := List.replicate 15 ⟨0x08, 0, []⟩ }) id),
    hearing_of (by decide +kernel), by simp only [InSequence, all_some]; decide +kernel⟩⟩

set_option maxRecDepth 100000 in
theorem test_hyps_VisitFramesReceived_discarded :
    (∃ s : State, Hearing 3 s ∧ (120#8).toNat ≤ 120 ∧ (List.replicate 122 0#8).length = (120#8).toNat + 2 ∧
      LaneFrame.wire ⟨8, 0, (List.replicate 122 0#8).take 120⟩ ≠ 0xA5 :: 8 :: 0 :: 120 :: List.replicate 122 0) ∧
    (∃ s : State, Hearing 3 s ∧ LaneFrame.content ⟨0x0B, 0, List.replicate 120 0⟩ = .unknownClass ∧
      (List.replicate 120 0#8).length ≤ 120 ∧ InSequence 3 0 s) ∧
    (∃ s : State, Hearing 3 s ∧ LaneFrame.content ⟨0x08, 0, [0]⟩ = .malformed ∧ InSequence 3 0 s) ∧
    (∃ f : LaneFrame, f.cls.toNat = 8 ∧ ∀ c : InFrame, f.content ≠ .visit c) ∧
    (∃ s : State, Hearing 3 s ∧ LaneFrame.content ⟨0x08, 0, []⟩ = .visit .clear ∧ InSequence 3 0 s ∧ (s.lane 3).lcu.mode = .closed) ∧
    (∃ s : State, Hearing 3 s ∧ LaneFrame.content ⟨0x08, 0, []⟩ = .visit .clear ∧ InSequence 3 0 s ∧ (s.lane 3).lcu.mode ≠ .closed ∧
      16 ≤ (s.lane 3).port.queue.length) :=
  ⟨⟨State.reset,
    hearing_of (by decide +kernel), by decide +kernel⟩,
    ⟨State.reset,
    hearing_of (by decide +kernel), by simp only [InSequence, all_some]; decide +kernel⟩,
    ⟨State.reset,
    hearing_of (by decide +kernel), by simp only [InSequence, all_some]; decide +kernel⟩,
    ⟨⟨8, 0, [0]⟩, rfl, fun c => by simp [LaneFrame.content, clearPayload, visitContent]⟩,
    ⟨State.reset,
    hearing_of (by decide +kernel), by simp only [InSequence, all_some]; decide +kernel⟩,
    ⟨(open3 (fun p => { p with queue := List.replicate 16 ⟨0x08, 0, []⟩ }) id),
    hearing_of (by decide +kernel), by simp only [InSequence, all_some]; decide +kernel⟩⟩

theorem test_hyps_ReadyFrames :
    (∃ s : State, Hearing 3 s ∧ InSequence 3 9 s ∧ (7#8).toNat < 8 ∧ hasBit (s.lane 3).lcu.ready (7#8).toNat = true) ∧
    (∃ s : State, Hearing 3 s ∧ InSequence 3 9 s ∧ hasBit (s.lane 3).lcu.ready (5#8).toNat = false ∧
      subMask (s.profileOf 3).required (addBit (s.lane 3).lcu.ready (5#8).toNat) = false) ∧
    (∃ s : State, Hearing 3 s ∧ InSequence 3 9 s ∧ hasBit (s.lane 3).lcu.ready (0#8).toNat = false ∧ (s.lane 3).lcu.mode ≠ .warming) ∧
    (∃ s : State, Hearing 3 s ∧ InSequence 3 9 s ∧ hasBit (s.lane 3).lcu.ready (7#8).toNat = false ∧
      (s.lane 3).lcu.mode = .warming ∧ (s.lane 3).lcu.target = some .openIn ∧
      subMask (s.profileOf 3).required (addBit (s.lane 3).lcu.ready (7#8).toNat) = true) ∧
    (∃ s : State, Hearing 3 s ∧ InSequence 3 9 s ∧ 8 ≤ (8#8).toNat) :=
  ⟨⟨(lane3 fun x => { x with lcu := { x.lcu with ready := 0b11111111#8 } }),
    hearing_of (by decide +kernel), by simp only [InSequence, all_some]; decide +kernel⟩,
    ⟨(lane3 fun x => { x with lcu := { x.lcu with mode := .warming, target := some .openIn, ready := 0b01001111#8 } }),
    hearing_of (by decide +kernel), by simp only [InSequence, all_some]; decide +kernel⟩,
    ⟨State.reset,
    hearing_of (by decide +kernel), by simp only [InSequence, all_some]; decide +kernel⟩,
    ⟨(lane3 fun x => { x with lcu := { x.lcu with mode := .warming, target := some .openIn, ready := 0b01001111#8 } }),
    hearing_of (by decide +kernel), by simp only [InSequence, all_some]; decide +kernel⟩,
    ⟨State.reset,
    hearing_of (by decide +kernel), by simp only [InSequence, all_some]; decide +kernel⟩⟩

theorem test_hyps_Acknowledgements :
    (∃ s : State, Hearing 3 s ∧ InSequence 3 1 s ∧ (s.lane 3).port.signWait = some ⟨5, ⟨.noArrow, [], none⟩⟩) ∧
    (∃ s : State, Hearing 3 s ∧ InSequence 3 1 s ∧ (s.lane 3).port.signWait = some ⟨5, ⟨.noArrow, [], some ⟨1, some 9⟩⟩⟩) ∧
    (∃ s : State, Hearing 3 s ∧ InSequence 3 1 s ∧ ∀ w : SignWait, (s.lane 3).port.signWait = some w → w.seq ≠ 4) ∧
    (∃ s : State, Hearing 3 s ∧ InSequence 3 1 s ∧ (s.lane 3).port.lastBarrierSeq = some 6 ∧ (1#8).toNat < 2) ∧
    (∃ s : State, Hearing 3 s ∧ InSequence 3 1 s ∧ (s.lane 3).port.lastBarrierSeq ≠ some 5 ∧ (0#8).toNat < 2) ∧
    (∃ s : State, Hearing 3 s ∧ InSequence 3 1 s ∧ 2 ≤ (2#8).toNat) :=
  ⟨⟨(open3 (fun p => { p with signWait := some ⟨5, ⟨.noArrow, [], none⟩⟩, signTimer := some 0, lastBarrierSeq := some 6 }) id),
    hearing_of (by decide +kernel), by simp only [InSequence, all_some]; decide +kernel⟩,
    ⟨(open3 (fun p => { p with signWait := some ⟨5, ⟨.noArrow, [], some ⟨1, some 9⟩⟩⟩, signTimer := some 0, lastBarrierSeq := some 6 }) id),
    hearing_of (by decide +kernel), by simp only [InSequence, all_some]; decide +kernel⟩,
    ⟨(open3 (fun p => { p with signWait := some ⟨5, ⟨.noArrow, [], none⟩⟩, signTimer := some 0, lastBarrierSeq := some 6 }) id),
    hearing_of (by decide +kernel), by simp only [InSequence, all_some]; decide +kernel⟩,
    ⟨(open3 (fun p => { p with signWait := some ⟨5, ⟨.noArrow, [], none⟩⟩, signTimer := some 0, lastBarrierSeq := some 6 }) id),
    hearing_of (by decide +kernel), by simp only [InSequence, all_some]; decide +kernel⟩,
    ⟨(open3 (fun p => { p with signWait := some ⟨5, ⟨.noArrow, [], none⟩⟩, signTimer := some 0, lastBarrierSeq := some 6 }) id),
    hearing_of (by decide +kernel), by simp only [InSequence, all_some]; decide +kernel⟩,
    ⟨(open3 (fun p => { p with signWait := some ⟨5, ⟨.noArrow, [], none⟩⟩, signTimer := some 0, lastBarrierSeq := some 6 }) id),
    hearing_of (by decide +kernel), by simp only [InSequence, all_some]; decide +kernel⟩⟩

theorem test_hyps_LaneTransmitter :
    (Quiet State.reset) ∧
    ((Port.reset .down).line = .down) ∧
    ((({ Port.reset .up with hpBarrier := some .raise } : Port).line = .up ∧
      ({ Port.reset .up with hpBarrier := some .raise } : Port).tx = none ∧
      ({ Port.reset .up with hpBarrier := some .raise } : Port).hpBarrier = some .raise)) ∧
    ((({ Port.reset .up with hpShow := some ⟨.noArrow, [], none⟩ } : Port).line = .up ∧
      ({ Port.reset .up with hpShow := some ⟨.noArrow, [], none⟩ } : Port).tx = none ∧
      ({ Port.reset .up with hpShow := some ⟨.noArrow, [], none⟩ } : Port).hpBarrier = none ∧
      ({ Port.reset .up with hpShow := some ⟨.noArrow, [], none⟩ } : Port).hpShow = some ⟨.noArrow, [], none⟩ ∧
      ({ Port.reset .up with hpShow := some ⟨.noArrow, [], none⟩ } : Port).signWait = none)) ∧
    ((({ Port.reset .up with hpShow := some ⟨.noArrow, [], none⟩, signWait := some ⟨5, ⟨.noArrow, [], none⟩⟩, hpSweep := some (.stop 1), hpReread := some 2, hpWake := true } : Port).line = .up ∧
      ({ Port.reset .up with hpShow := some ⟨.noArrow, [], none⟩, signWait := some ⟨5, ⟨.noArrow, [], none⟩⟩, hpSweep := some (.stop 1), hpReread := some 2, hpWake := true } : Port).tx = none ∧
      ({ Port.reset .up with hpShow := some ⟨.noArrow, [], none⟩, signWait := some ⟨5, ⟨.noArrow, [], none⟩⟩, hpSweep := some (.stop 1), hpReread := some 2, hpWake := true } : Port).hpBarrier = none ∧
      ({ Port.reset .up with hpShow := some ⟨.noArrow, [], none⟩, signWait := some ⟨5, ⟨.noArrow, [], none⟩⟩, hpSweep := some (.stop 1), hpReread := some 2, hpWake := true } : Port).signWait ≠ none ∧
      ({ Port.reset .up with hpShow := some ⟨.noArrow, [], none⟩, signWait := some ⟨5, ⟨.noArrow, [], none⟩⟩, hpSweep := some (.stop 1), hpReread := some 2, hpWake := true } : Port).hpSweep = some (.stop 1))) ∧
    (∃ p : Port, p.line = .up ∧ p.tx = none ∧ p.hpBarrier = none ∧ p.hpShow = none ∧ p.hpSweep = none ∧ p.hpReread = some 2) ∧
    (∃ p : Port, p.line = .up ∧ p.tx = none ∧ p.hpBarrier = none ∧ p.hpShow = none ∧ p.hpSweep = none ∧ p.hpReread = none ∧
      p.hpWake = true) ∧
    ((Port.reset .up).hpBarrier = none ∧ (Port.reset .up).hpShow = none ∧ (Port.reset .up).hpSweep = none ∧
      (Port.reset .up).hpReread = none ∧ (Port.reset .up).hpWake = false) :=
  ⟨quiet_of (by decide +kernel),
    by decide +kernel,
    by decide +kernel,
    by decide +kernel,
    by decide +kernel,
    ⟨{ Port.reset .up with hpReread := some 2 }, by decide +kernel⟩,
    ⟨{ Port.reset .up with hpWake := true }, by decide +kernel⟩,
    by decide +kernel⟩

theorem test_hyps_LaneTimerExpiries :
    (∃ s : State, Quiet s ∧ (s.lane 3).lcu.t1 = some 0 ∧ (s.lane 3).lcu.holds = 0 ∧ modeHoldable (s.lane 3).lcu.mode = false) ∧
    (∃ s : State, Quiet s ∧ (s.lane 3).port.signWait = some ⟨5, ⟨.noArrow, [], none⟩⟩ ∧ (s.lane 3).port.signTimer = some 0 ∧
      (s.lane 3).lcu.holds = 0 ∧ hasBit (s.faults.get (lanePort 3)).mask 7 = false ∧
      hasBit (s.faults.get (lanePort 3)).severity 7 = true ∧ modeHoldable (s.lane 3).lcu.mode = true) ∧
    (∃ s : State, Quiet s ∧ (s.lane 3).port.signWait = some ⟨5, ⟨.noArrow, [], none⟩⟩ ∧ (s.lane 3).port.signTimer = some 0 ∧
      (s.lane 3).lcu.holds = 0 ∧ hasBit (s.faults.get (lanePort 3)).mask 7 = true) ∧
    (∃ s : State, Quiet s ∧ (s.lane 3).port.signWait = some ⟨5, ⟨.noArrow, [], none⟩⟩ ∧ (s.lane 3).port.signTimer = some 0 ∧
      (s.lane 3).lcu.holds = 0b10001#8 ∧ hasBit (s.faults.get (lanePort 3)).mask 7 = false ∧
      hasBit (s.faults.get (lanePort 3)).severity 7 = true ∧ modeHoldable (s.lane 3).lcu.mode = true) ∧
    (∃ s : State, Quiet s ∧ (s.lane 3).port.signTimer = some 0 ∧ (s.lane 3).port.signWait = none) ∧
    (∃ s : State, Quiet s ∧ (s.lane 3).port.signTimer ≠ some 0 ∧ (s.lane 3).lcu.t1 ≠ some 0 ∧ (s.lane 3).lcu.t3 ≠ some 0) ∧
    (∃ s : State, Quiet s ∧ (s.lane 3).lcu.t1 = some 0 ∧ (s.lane 3).lcu.holds = 0 ∧ modeHoldable (s.lane 3).lcu.mode = true ∧
      s.bound 3 = some (0, visit3 .directed (some .admitted))) ∧
    (∃ s : State, Quiet s ∧ (s.lane 3).lcu.t3 = some 0 ∧ (s.lane 3).lcu.mode = .warming) :=
  ⟨⟨(lane3 fun x => { x with lcu := { x.lcu with mode := .warming, target := some .openIn, t1 := some 0 } }),
    quiet_of (by decide +kernel), by decide +kernel⟩,
    ⟨(open3 (fun p => { p with signWait := some ⟨5, ⟨.noArrow, [], none⟩⟩, signTimer := some 0, lastBarrierSeq := some 6 }) id),
    quiet_of (by decide +kernel), by decide +kernel⟩,
    ⟨({ (open3 (fun p => { p with signWait := some ⟨5, ⟨.noArrow, [], none⟩⟩, signTimer := some 0 }) id) with faults := State.reset.faults.set 3 { FaultRecord.reset true with mask := 0x80#16 } } : State),
    quiet_of (by decide +kernel), by decide +kernel⟩,
    ⟨(open3 (fun p => { p with signWait := some ⟨5, ⟨.noArrow, [], none⟩⟩, signTimer := some 0 }) fun u => { u with holds := 0b10001#8 }),
    quiet_of (by decide +kernel), by decide +kernel⟩,
    ⟨(open3 (fun p => { p with signTimer := some 0 }) id),
    quiet_of (by decide +kernel), by decide +kernel⟩,
    ⟨State.reset,
    quiet_of (by decide +kernel), by decide +kernel⟩,
    ⟨(withVisit (visit3 .directed (some .admitted)) (open3 id fun u => { u with t1 := some 0 })),
    quiet_of (by decide +kernel), by decide +kernel⟩,
    ⟨(lane3 fun x => { x with lcu := { x.lcu with mode := .warming, target := some .openIn, t3 := some 0 } }),
    quiet_of (by decide +kernel), by decide +kernel⟩⟩

theorem test_hyps_VisitWindowExpiries_read :
    (∃ s : State, Quiet s ∧ (s.lane 3).lcu.t0 = some (0, .read) ∧ (s.lane 3).lcu.holds = 0 ∧
      s.bound 3 = some (0, visit3 .identifying none) ∧ (s.profileOf 3).reread = true) ∧
    (∃ s : State, Quiet s ∧ (s.lane 3).lcu.t0 = some (0, .read) ∧ (s.lane 3).lcu.holds = 0 ∧
      s.bound 3 = some (0, { visit3 .identifying none with rereaded := true }) ∧
      Visit.rereaded ({ visit3 .identifying none with rereaded := true }) = true) ∧
    (∃ s : State, Quiet s ∧ (s.lane 3).lcu.t0 = some (0, .read) ∧ (s.lane 3).lcu.holds = 0 ∧
      ∀ (v : VisitIx) (x : Visit), s.bound 3 = some (v, x) → x.state ≠ .identifying) ∧
    (∃ s : State, Quiet s ∧ (s.lane 3).lcu.holds ≠ 0) ∧
    (∃ s : State, Quiet s ∧ (s.lane 3).lcu.t0 ≠ some (0, .read)) :=
  ⟨⟨(withVisit (visit3 .identifying none) (open3 id fun u => { u with t0 := some (0, .read), holds := 0 })),
    quiet_of (by decide +kernel), by decide +kernel⟩,
    ⟨(withVisit ({ visit3 .identifying none with rereaded := true }) (open3 id fun u => { u with t0 := some (0, .read), holds := 0 })),
    quiet_of (by decide +kernel), by decide +kernel⟩,
    ⟨(open3 id fun u => { u with t0 := some (0, .read) }),
    quiet_of (by decide +kernel), by simp only [all_pair]; decide +kernel⟩,
    ⟨(withVisit (visit3 .identifying none) (open3 id fun u => { u with t0 := some (0, .read), holds := 1 })),
    quiet_of (by decide +kernel), by decide +kernel⟩,
    ⟨State.reset,
    quiet_of (by decide +kernel), by decide +kernel⟩⟩

theorem test_hyps_VisitWindowExpiries_check :
    (∃ s : State, Quiet s ∧ (s.lane 3).lcu.t0 = some (0, .check) ∧ (s.lane 3).lcu.holds = 0 ∧ s.bound 3 = some (0, checking3)) ∧
    (∃ s : State, Quiet s ∧ (s.lane 3).lcu.t0 ≠ some (0, .check)) :=
  ⟨⟨(withVisit (checking3) (open3 id fun u => { u with t0 := some (0, .check), holds := 0 })),
    quiet_of (by decide +kernel), by decide +kernel⟩,
    ⟨State.reset,
    quiet_of (by decide +kernel), by decide +kernel⟩⟩

theorem test_hyps_HeadWaits :
    (∃ s : State, Quiet s ∧ (s.lane 3).lcu.holds ≠ 0) ∧
    (∃ s : State, Quiet s ∧ (s.lane 3).lcu.mode = .closed) ∧
    (∃ s : State, Quiet s ∧ 3 ∈ (s : State).parked) ∧
    (∃ s : State, Quiet s ∧ (s.lane 3).port.queue = []) :=
  ⟨⟨(open3 id fun u => { u with holds := 1 }),
    quiet_of (by decide +kernel), by decide +kernel⟩,
    ⟨State.reset,
    quiet_of (by decide +kernel), by decide +kernel⟩,
    ⟨{ State.reset with parked := [3] },
    quiet_of (by decide +kernel), by decide +kernel⟩,
    ⟨(open3 id id),
    quiet_of (by decide +kernel), by decide +kernel⟩⟩

theorem test_hyps_ArriveApplied_granted :
    (∃ s : State, HeadReady 3 ⟨0x01, 0, [1]⟩ (.arrive .one) s ∧ s.bound 3 = none ∧ s.visit 0 = none ∧ ∀ w : VisitIx, w < 0 →
      s.visit w ≠ none) ∧
    (State.reset.visitNumbered (if 65534 < 65535 then 65534 + 1 else 1) = none) ∧
    (State.reset.visitNumbered (if 65535 < 65535 then 65535 + 1 else 1) = none) ∧
    (State.reset.visit 23 = none) :=
  ⟨⟨(open3 (fun p => { p with queue := [⟨0x01, 0, [1]⟩] }) id),
    headReady_of (by decide +kernel), by decide +kernel⟩,
    by decide +kernel,
    by decide +kernel,
    by decide +kernel⟩

theorem test_hyps_ArriveApplied_parked :
    (∃ s : State, HeadReady 3 ⟨0x01, 0, [1]⟩ (.arrive .one) s ∧ s.bound 3 = none ∧ ∀ v : VisitIx, s.visit v ≠ none) ∧
    (∃ s : State, HeadReady 3 ⟨0x01, 0, [1]⟩ (.arrive .one) s ∧ s.bound 3 = some (0, visit3 .identifying none)) ∧
    (({ (open3 (fun p => { p with queue := [⟨0x01, 0, [1]⟩] }) id) with parked := [3] } : State).parked = 3 :: [] ∧
      (({ (open3 (fun p => { p with queue := [⟨0x01, 0, [1]⟩] }) id) with parked := [3] } : State).lane 3).port.queue.head? = some ⟨0x01, 0, [1]⟩ ∧
      LaneFrame.content ⟨0x01, 0, [1]⟩ = .visit (.arrive .one)) ∧
    (State.reset.parked = []) :=
  ⟨⟨(fullTable (open3 (fun p => { p with queue := [⟨0x01, 0, [1]⟩] }) id)),
    headReady_of (by decide +kernel), by decide +kernel⟩,
    ⟨(withVisit (visit3 .identifying none) (open3 (fun p => { p with queue := [⟨0x01, 0, [1]⟩] }) id)),
    headReady_of (by decide +kernel), by decide +kernel⟩,
    by decide +kernel,
    by decide +kernel⟩

theorem test_hyps_ReadsTaken_plateAndCard :
    (∃ s : State, HeadReady 3 ⟨0x02, 0, [100, 1, 0x41]⟩ (.plate 100 [0x41]) s ∧ s.bound 3 = some (0, visit3 .identifying none)) ∧
    (∃ s : State, HeadReady 3 ⟨0x02, 0, [100, 1, 0x41]⟩ (.plate 100 [0x41]) s ∧
      s.bound 3 = some (0, { visit3 .identifying none with plate := some ([0x42], 100) })) ∧
    (∃ s : State, HeadReady 3 ⟨0x02, 0, [99, 1, 0x41]⟩ (.plate 99 [0x41]) s ∧
      s.bound 3 = some (0, { visit3 .identifying none with plate := some ([0x42], 100) })) ∧
    (∃ s : State, HeadReady 3 ⟨0x03, 0, [1, 0x30]⟩ (.card [0x30]) s ∧ s.bound 3 = some (0, visit3 .identifying none)) ∧
    (∃ s : State, HeadReady 3 ⟨0x02, 0, [100, 1, 0x41]⟩ (.plate 100 [0x41]) s ∧
      ∀ (v : VisitIx) (x : Visit), s.bound 3 = some (v, x) → x.state ≠ .identifying) ∧
    (∃ s : State, HeadReady 3 ⟨0x03, 0, [1, 0x30]⟩ (.card [0x30]) s ∧ ∀ (v : VisitIx) (x : Visit), s.bound 3 = some (v, x) →
      x.state ≠ .identifying) :=
  ⟨⟨(withVisit (visit3 .identifying none) (open3 (fun p => { p with queue := [⟨0x02, 0, [100, 1, 0x41]⟩] }) id)),
    headReady_of (by decide +kernel), by decide +kernel⟩,
    ⟨(withVisit ({ visit3 .identifying none with plate := some ([0x42], 100) }) (open3 (fun p => { p with queue := [⟨0x02, 0, [100, 1, 0x41]⟩] }) id)),
    headReady_of (by decide +kernel), by decide +kernel⟩,
    ⟨(withVisit ({ visit3 .identifying none with plate := some ([0x42], 100) }) (open3 (fun p => { p with queue := [⟨0x02, 0, [99, 1, 0x41]⟩] }) id)),
    headReady_of (by decide +kernel), by decide +kernel⟩,
    ⟨(withVisit (visit3 .identifying none) (open3 (fun p => { p with queue := [⟨0x03, 0, [1, 0x30]⟩] }) id)),
    headReady_of (by decide +kernel), by decide +kernel⟩,
    ⟨(withVisit (visit3 .checking none) (open3 (fun p => { p with queue := [⟨0x02, 0, [100, 1, 0x41]⟩] }) id)),
    headReady_of (by decide +kernel), by simp only [all_pair]; decide +kernel⟩,
    ⟨(withVisit (visit3 .checking none) (open3 (fun p => { p with queue := [⟨0x03, 0, [1, 0x30]⟩] }) id)),
    headReady_of (by decide +kernel), by simp only [all_pair]; decide +kernel⟩⟩

theorem test_hyps_ReadsTaken_code :
    (∃ s : State, HeadReady 3 ⟨0x04, 0, 0 :: 80 :: code1⟩ (.code .single 80 code1) s ∧
      s.bound 3 = some (0, visit3 .identifying none) ∧ positionPermitted .one .single = true ∧
      Visit.entryAt (visit3 .identifying none) .single = none) ∧
    (∃ s : State, HeadReady 3 ⟨0x04, 0, 1 :: 80 :: code1⟩ (.code .front 80 code1) s ∧
      s.bound 3 = some (0, visit3 .identifying none) ∧ positionPermitted .one .front = false) ∧
    (∃ s : State, HeadReady 3 ⟨0x04, 0, 0 :: 80 :: code1⟩ (.code .single 80 code1) s ∧
      s.bound 3 = some (0, { visit3 .identifying none with carried := [{ carried .single with code := code1.drop 1 ++ [0x30] }] }) ∧
      (Visit.entryAt ({ visit3 .identifying none with carried := [{ carried .single with code := code1.drop 1 ++ [0x30] }] }) .single).isSome = true) :=
  ⟨⟨(withVisit (visit3 .identifying none) (open3 (fun p => { p with queue := [⟨0x04, 0, 0 :: 80 :: code1⟩] }) id)),
    headReady_of (by decide +kernel), by decide +kernel⟩,
    ⟨(withVisit (visit3 .identifying none) (open3 (fun p => { p with queue := [⟨0x04, 0, 1 :: 80 :: code1⟩] }) id)),
    headReady_of (by decide +kernel), by decide +kernel⟩,
    ⟨(withVisit ({ visit3 .identifying none with carried := [{ carried .single with code := code1.drop 1 ++ [0x30] }] }) (open3 (fun p => { p with queue := [⟨0x04, 0, 0 :: 80 :: code1⟩] }) id)),
    headReady_of (by decide +kernel), by decide +kernel⟩⟩

theorem test_hyps_ClosureTaken :
    (∃ s : State, HeadReady 3 ⟨0x05, 0, [0, 1, 80, 1, 0x41]⟩ (.closure .single .camera none 80 [0x41]) s ∧
      s.bound 3 = some (0,
        { visit3 .identifying none with carried := [{ carried .single with reads := List.replicate 2 ⟨[0x41], .camera, none, 80⟩ }] }) ∧
      Visit.entryAt ({ visit3 .identifying none with carried := [{ carried .single with reads := List.replicate 2 ⟨[0x41], .camera, none, 80⟩ }] }) .single = some ({ carried .single with reads := List.replicate 2 ⟨[0x41], .camera, none, 80⟩ })) ∧
    (∃ s : State, HeadReady 3 ⟨0x05, 0, [0, 1, 80, 1, 0x41]⟩ (.closure .single .camera none 80 [0x41]) s ∧
      s.bound 3 = some (0,
        { visit3 .checking none with carried := [{ carried .single with reads := List.replicate 2 ⟨[0x41], .camera, none, 80⟩ }] }) ∧
      Visit.entryAt ({ visit3 .checking none with carried := [{ carried .single with reads := List.replicate 2 ⟨[0x41], .camera, none, 80⟩ }] }) .single = some ({ carried .single with reads := List.replicate 2 ⟨[0x41], .camera, none, 80⟩ })) ∧
    (∃ s : State, HeadReady 3 ⟨0x05, 0, [0, 1, 80, 1, 0x41]⟩ (.closure .single .camera none 80 [0x41]) s ∧
      (∀ (v : VisitIx) (x : Visit), s.bound 3 = some (v, x) → ∀ e : Carried, x.entryAt .single = some e →
      3 ≤ e.reads.length ∨ (x.state ≠ .identifying ∧ x.state ≠ .checking))) ∧
    (∃ s : State, HeadReady 3 ⟨0x05, 0, [0, 1, 80, 1, 0x41]⟩ (.closure .single .camera none 80 [0x41]) s ∧
      (∀ (v : VisitIx) (x : Visit), s.bound 3 = some (v, x) → ∀ e : Carried, x.entryAt .single = some e →
      3 ≤ e.reads.length ∨ (x.state ≠ .identifying ∧ x.state ≠ .checking))) :=
  ⟨⟨(withVisit ({ visit3 .identifying none with carried := [{ carried .single with reads := List.replicate 2 ⟨[0x41], .camera, none, 80⟩ }] }) (open3 (fun p => { p with queue := [⟨0x05, 0, [0, 1, 80, 1, 0x41]⟩] }) id)),
    headReady_of (by decide +kernel), by decide +kernel⟩,
    ⟨(withVisit ({ visit3 .checking none with carried := [{ carried .single with reads := List.replicate 2 ⟨[0x41], .camera, none, 80⟩ }] }) (open3 (fun p => { p with queue := [⟨0x05, 0, [0, 1, 80, 1, 0x41]⟩] }) id)),
    headReady_of (by decide +kernel), by decide +kernel⟩,
    ⟨(withVisit ({ visit3 .checking none with carried := [{ carried .single with reads := List.replicate 3 ⟨[0x41], .camera, none, 80⟩ }] }) (open3 (fun p => { p with queue := [⟨0x05, 0, [0, 1, 80, 1, 0x41]⟩] }) id)),
    headReady_of (by decide +kernel), by simp only [all_pair, all_some]; decide +kernel⟩,
    ⟨(withVisit ({ visit3 .directed none with carried := [{ carried .single with reads := List.replicate 2 ⟨[0x41], .camera, none, 80⟩ }] }) (open3 (fun p => { p with queue := [⟨0x05, 0, [0, 1, 80, 1, 0x41]⟩] }) id)),
    headReady_of (by decide +kernel), by simp only [all_pair, all_some]; decide +kernel⟩⟩

theorem test_hyps_SweepFramesApplied_find :
    (Sweep.reset.last = none) ∧
    (Sweep.last ({ Sweep.reset with last := some 7 }) = some 7) ∧
    (Sweep.last ({ Sweep.reset with last := some 8 }) = some 8 ∧ 7#16 ≠ 8#16) ∧
    (∃ s : State, HeadReady 3 ⟨0x06, 0, [0, 7, 0, 0, 0, 0, 15, 3, 255]⟩ (.find 7 .single .left 0 .dent 15 1023) s ∧
      (s.lane 3).sweep.classify 7 = .applies ∧ (s.lane 3).sweep.info = some ⟨1, 1#8, 0b111111#8, 0, 1022, []⟩ ∧
      hasBit (1#8) (Position.toCode .single) = true ∧ hasBit (0b111111#8) (Panel.toCode .left) = true ∧
      s.bound 3 = some (0, checking3) ∧ Visit.entryAt (checking3) .single = some (carried .single)) ∧
    (∃ s : State, HeadReady 3 ⟨0x06, 0, [0, 7, 1, 0, 0, 0, 15, 3, 255]⟩ (.find 7 .front .left 0 .dent 15 1023) s ∧
      (s.lane 3).sweep.classify 7 = .applies ∧ ∀ i : SweepInfo, (s.lane 3).sweep.info = some i →
      hasBit i.positions (Position.toCode .front) = false) ∧
    (∃ s : State, HeadReady 3 ⟨0x06, 0, [0, 7, 0, 0, 0, 0, 15, 3, 255]⟩ (.find 7 .single .left 0 .dent 15 1023) s ∧
      (s.lane 3).sweep.classify 7 = .unexpected) ∧
    (∃ s : State, HeadReady 3 ⟨0x06, 0, [0, 7, 0, 0, 0, 0, 15, 3, 255]⟩ (.find 7 .single .left 0 .dent 15 1023) s ∧
      (s.lane 3).sweep.classify 7 = .stale) :=
  ⟨by decide +kernel,
    by decide +kernel,
    by decide +kernel,
    ⟨(withVisit (checking3) (lane3 fun y => { y with port := { y.port with queue := [⟨0x06, 0, [0, 7, 0, 0, 0, 0, 15, 3, 255]⟩] }, lcu := { y.lcu with mode := .openIn }, sweep := { y.sweep with phase := .running, last := some 7, lastEnd := none, info := some ⟨1, 1#8, 0b111111#8, 0, 1022, []⟩ } })),
    headReady_of (by decide +kernel), by decide +kernel⟩,
    ⟨(withVisit (checking3) (lane3 fun y => { y with port := { y.port with queue := [⟨0x06, 0, [0, 7, 1, 0, 0, 0, 15, 3, 255]⟩] }, lcu := { y.lcu with mode := .openIn }, sweep := { y.sweep with phase := .running, last := some 7, lastEnd := none, info := some ⟨1, 1#8, 0b111111#8, 0, 1022, []⟩ } })),
    headReady_of (by decide +kernel), by simp only [all_some]; decide +kernel⟩,
    ⟨(withVisit (checking3) (lane3 fun y => { y with port := { y.port with queue := [⟨0x06, 0, [0, 7, 0, 0, 0, 0, 15, 3, 255]⟩] }, lcu := { y.lcu with mode := .openIn }, sweep := { y.sweep with phase := .idle, last := none, lastEnd := none, info := none } })),
    headReady_of (by decide +kernel), by decide +kernel⟩,
    ⟨(withVisit (checking3) (lane3 fun y => { y with port := { y.port with queue := [⟨0x06, 0, [0, 7, 0, 0, 0, 0, 15, 3, 255]⟩] }, lcu := { y.lcu with mode := .openIn }, sweep := { y.sweep with phase := .idle, last := some 7, lastEnd := some .stopped, info := some ⟨1, 1#8, 0b111111#8, 0, 1022, []⟩ } })),
    headReady_of (by decide +kernel), by decide +kernel⟩⟩

theorem test_hyps_SweepFramesApplied_end :
    (∃ s : State, HeadReady 3 ⟨0x07, 0, [0, 7, 0, 3, 254]⟩ (.sweepEnd 7 .complete 1022) s ∧ (s.lane 3).sweep.classify 7 = .applies ∧
      (s.lane 3).sweep.info = some ⟨1, 1#8, 0b111111#8, 0, 1022, []⟩ ∧ s.bound 3 = some (0, checking3)) ∧
    (∃ s : State, HeadReady 3 ⟨0x07, 0, [0, 7, 0, 3, 254]⟩ (.sweepEnd 7 .complete 1022) s ∧
      (s.lane 3).sweep.classify 7 = .unexpected) ∧
    (∃ s : State, HeadReady 3 ⟨0x07, 0, [0, 7, 0, 3, 254]⟩ (.sweepEnd 7 .complete 1022) s ∧ (s.lane 3).sweep.classify 7 = .stale) :=
  ⟨⟨(withVisit (checking3) (lane3 fun y => { y with port := { y.port with queue := [⟨0x07, 0, [0, 7, 0, 3, 254]⟩] }, lcu := { y.lcu with mode := .openIn }, sweep := { y.sweep with phase := .running, last := some 7, lastEnd := none, info := some ⟨1, 1#8, 0b111111#8, 0, 1022, []⟩ } })),
    headReady_of (by decide +kernel), by decide +kernel⟩,
    ⟨(withVisit (checking3) (lane3 fun y => { y with port := { y.port with queue := [⟨0x07, 0, [0, 7, 0, 3, 254]⟩] }, lcu := { y.lcu with mode := .openIn }, sweep := { y.sweep with phase := .idle, last := none, lastEnd := none, info := none } })),
    headReady_of (by decide +kernel), by decide +kernel⟩,
    ⟨(withVisit (checking3) (lane3 fun y => { y with port := { y.port with queue := [⟨0x07, 0, [0, 7, 0, 3, 254]⟩] }, lcu := { y.lcu with mode := .openIn }, sweep := { y.sweep with phase := .idle, last := some 7, lastEnd := some .stopped, info := some ⟨1, 1#8, 0b111111#8, 0, 1022, []⟩ } })),
    headReady_of (by decide +kernel), by decide +kernel⟩⟩

theorem test_hyps_ClearApplied :
    (∃ s : State, HeadReady 3 ⟨0x08, 0, []⟩ (.clear) s ∧ s.bound 3 = some (0, visit3 .directed (some .admitted)) ∧
      (s.lane 3).lcu.mode = .openIn ∧ s.parked = [] ∧ s.records.length < 32) ∧
    (∃ s : State, HeadReady 3 ⟨0x08, 0, []⟩ .clear s ∧ s.bound 3 = some (0, visit3 .directed (some .admitted)) ∧
      (s.lane 3).lcu.mode = .openIn ∧ s.parked = [] ∧ 32 ≤ s.records.length) ∧
    (∃ s : State, HeadReady 3 ⟨0x08, 0, []⟩ (.clear) s ∧ s.bound 3 = some (0, visit3 .directed (some .refer)) ∧
      (s.lane 3).lcu.mode = .openIn) ∧
    (∃ s : State, HeadReady 3 ⟨0x08, 0, []⟩ .clear s ∧ s.bound 3 = some (0, visit3 .directed (some .admitted)) ∧
      (s.lane 3).lcu.mode = .draining ∧ (s.lane 3).lcu.target = some .closed ∧ s.parked = []) ∧
    (∃ s : State, HeadReady 3 ⟨0x08, 0, []⟩ (.clear) s ∧ ∀ (v : VisitIx) (x : Visit), s.bound 3 = some (v, x) → x.state ≠ .directed) :=
  ⟨⟨(withVisit (visit3 .directed (some .admitted)) (open3 (fun p => { p with queue := [⟨0x08, 0, []⟩] }) id)),
    headReady_of (by decide +kernel), by decide +kernel⟩,
    ⟨({ (withVisit (visit3 .directed (some .admitted)) (open3 (fun p => { p with queue := [⟨0x08, 0, []⟩] }) id)) with records := List.replicate 32 (0, record1), term := { State.reset.term with tx := some (.record 0 record1) } } : State),
    headReady_of (by decide +kernel), by decide +kernel⟩,
    ⟨(withVisit (visit3 .directed (some .refer)) (open3 (fun p => { p with queue := [⟨0x08, 0, []⟩] }) id)),
    headReady_of (by decide +kernel), by decide +kernel⟩,
    ⟨(withVisit (visit3 .directed (some .admitted)) (lane3 fun y => { inMode .draining (some .closed) y with port := { y.port with queue := [⟨0x08, 0, []⟩] } })),
    headReady_of (by decide +kernel), by decide +kernel⟩,
    ⟨(withVisit (visit3 .checking none) (open3 (fun p => { p with queue := [⟨0x08, 0, []⟩] }) id)),
    headReady_of (by decide +kernel), by simp only [all_pair]; decide +kernel⟩⟩

theorem test_hyps_MgmtFramesDiscarded :
    (∃ s : State, Quiet s ∧ (s.link .terminal).rx ≠ []) ∧
    (∃ s : State, Quiet s ∧ (s.link .authority).rx = []) ∧
    (∃ s : State, HearingLink .terminal s ∧ 1024 < (4#8).toNat * 256 + (1#8).toNat) ∧
    (∃ s : State, HearingLink .authority s ∧ (4#8).toNat * 256 + (0#8).toNat ≤ 1024) ∧
    (∃ s : State, HearingLink .terminal s ∧ ([1, 2, 3, 4] : List Byte).length = (0#8).toNat * 256 + (0#8).toNat + 4 ∧
      MgmtFrame.wire ⟨1, 0, ([1, 2, 3, 4] : List Byte).take ((0#8).toNat * 256 + (0#8).toNat)⟩ ≠ [0xC3, 1, 0, 0, 0, 1, 2, 3, 4]) ∧
    (∃ s : State, HearingLink .terminal s ∧ (List.replicate 1024 0#8).length ≤ 1024 ∧ 2#8 ≠ 1) :=
  ⟨⟨({ State.reset with term := { State.reset.term with rx := [0xC3] } } : State),
    quiet_of (by decide +kernel), by decide +kernel⟩,
    ⟨State.reset,
    quiet_of (by decide +kernel), by decide +kernel⟩,
    ⟨State.reset,
    hearingLink_of (by decide +kernel), by decide +kernel⟩,
    ⟨State.reset,
    hearingLink_of (by decide +kernel), by decide +kernel⟩,
    ⟨State.reset,
    hearingLink_of (by decide +kernel), by decide +kernel⟩,
    ⟨State.reset,
    hearingLink_of (by decide +kernel), by decide +kernel⟩⟩

theorem test_hyps_RequestFrameIsItsCommand :
    (∃ s : State, HearingLink .terminal s ∧ requestOf (.openLane 5 255 .inGate) = some (.terminal, 5, .openLane 255 .inGate) ∧
      Instr.wf (.openLane 5 255 .inGate) = true ∧ (Request.encode (.openLane 255 .inGate)).length < 1024) ∧
    (∃ s : State, Quiet s ∧ requestOf (.readStatus 3) = some (.terminal, 3, .readStatus) ∧ (s.link .terminal).state = .up ∧
      (s.link .terminal).reply ≠ none ∧ (s.link .terminal).queue.length < 8) ∧
    (∃ s : State, Quiet s ∧ requestOf (.readStatus 3) = some (.terminal, 3, .readStatus) ∧ (s.link .terminal).state = .up ∧
      (s.link .terminal).reply ≠ none ∧ 8 ≤ (s.link .terminal).queue.length) ∧
    (requestOf (.readNotice .authority 3) = some (.authority, 3, .readNotice) ∧
      (({ State.reset with auth := { State.reset.auth with state := .down } } : State).link .authority).state = .down) :=
  ⟨⟨State.reset,
    hearingLink_of (by decide +kernel), by decide +kernel⟩,
    ⟨({ State.reset with term := { State.reset.term with tx := some (.reply ⟨0, 0x71, .ok, []⟩), reply := some ⟨1, 0x71, .ok, []⟩, queue := List.replicate 7 ⟨2, 0x71, [], some .readStatus⟩ } } : State),
    quiet_of (by decide +kernel), by decide +kernel⟩,
    ⟨({ State.reset with term := { State.reset.term with tx := some (.reply ⟨0, 0x71, .ok, []⟩), reply := some ⟨1, 0x71, .ok, []⟩, queue := List.replicate 8 ⟨2, 0x71, [], some .readStatus⟩ } } : State),
    quiet_of (by decide +kernel), by decide +kernel⟩,
    by decide +kernel⟩

theorem test_hyps_LinkChanges :
    (∃ s : State, Quiet s ∧ s.term.state = .up ∧ s.term.rx = [] ∧ s.auth.state = .up ∧ s.auth.rx = []) ∧
    (∃ s : State, Quiet s ∧ s.term.state = .up ∧ s.term.rx ≠ []) ∧
    (∃ s : State, Quiet s ∧ s.term.state = .down ∧ s.term.queue = []) ∧
    (∃ s : State, Quiet s ∧ s.auth.state = .up ∧ s.auth.rx ≠ []) ∧
    (∃ s : State, Quiet s ∧ s.auth.state = .down ∧ s.auth.queue = []) :=
  ⟨⟨State.reset,
    quiet_of (by decide +kernel), by decide +kernel⟩,
    ⟨({ State.reset with term := { State.reset.term with rx := [0xC3] } } : State),
    quiet_of (by decide +kernel), by decide +kernel⟩,
    ⟨({ State.reset with term := { State.reset.term with state := .down } } : State),
    quiet_of (by decide +kernel), by decide +kernel⟩,
    ⟨({ State.reset with auth := { State.reset.auth with rx := [0xC3] } } : State),
    quiet_of (by decide +kernel), by decide +kernel⟩,
    ⟨({ State.reset with auth := { State.reset.auth with state := .down } } : State),
    quiet_of (by decide +kernel), by decide +kernel⟩⟩

theorem test_hyps_ManagementTransmitters :
    (({ State.reset with term := { State.reset.term with state := .down } } : State).term.state = .down ∧
      ({ State.reset with auth := { State.reset.auth with state := .down } } : State).auth.state = .down) ∧
    (∃ s : State, s.term.state = .up ∧ s.term.tx = none ∧ s.term.reply = some ⟨1, 0x71, .ok, []⟩) ∧
    (∃ s : State, s.term.state = .up ∧ s.term.tx = none ∧ s.term.reply = none ∧ s.firstEvent = some (.holdChange, 0) ∧
      s.turnRecord = false) ∧
    (∃ s : State, s.term.state = .up ∧ s.term.tx = none ∧ s.term.reply = none ∧ s.records = [(0, record1)] ∧ s.firstEvent = none) ∧
    (State.reset.term.reply = none ∧ State.reset.firstEvent = none ∧ State.reset.records = []) ∧
    (hasBit State.reset.enables (EventKind.toCode .holdChange) = true) ∧
    (hasBit ({ State.reset with enables := 0 } : State).enables (EventKind.toCode .laneMode) = false) ∧
    (∃ s : State, s.auth.state = .up ∧ s.auth.tx = none ∧ s.auth.reply = some ⟨1, 0x62, .ok, []⟩) ∧
    (∃ s : State, s.auth.state = .up ∧ s.auth.tx = none ∧ s.auth.reply = none ∧ s.attention = true) ∧
    (State.reset.auth.reply = none ∧ State.reset.attention = false) :=
  ⟨by decide +kernel,
    ⟨{ State.reset with term := { State.reset.term with reply := some ⟨1, 0x71, .ok, []⟩ } }, by decide +kernel⟩,
    ⟨raiseEvent .holdChange 0 State.reset, by decide +kernel⟩,
    ⟨{ State.reset with records := [(0, record1)] }, by decide +kernel⟩,
    by decide +kernel,
    by decide +kernel,
    by decide +kernel,
    ⟨{ State.reset with auth := { State.reset.auth with reply := some ⟨1, 0x62, .ok, []⟩ } }, by decide +kernel⟩,
    ⟨{ State.reset with attention := true }, by decide +kernel⟩,
    by decide +kernel⟩

theorem test_hyps_ManagementTransmitters_snapshots :
    (3 ∉ State.reset.parked ∧ State.reset.bound 3 = none) ∧
    (∃ s : State, 3 ∈ s.parked ∧ s.parked.idxOf 3 = 1) ∧
    (∃ s : State, s.bound 3 = some (0, visit3 .waitingBay (some .refer)) ∧ 0 ∈ s.bayWait) :=
  ⟨by decide +kernel, ⟨{ State.reset with parked := [2, 3] }, by decide +kernel⟩,
    ⟨{ withVisit (visit3 .waitingBay (some .refer)) State.reset with bayWait := [0] }, by decide +kernel⟩⟩

theorem test_hyps_ManagementTxComplete :
    (∃ s : State, Quiet s ∧ (∀ p : MgmtTx, s.term.tx = some p → p ≠ .record 0 record1) ∧ s.term.reply = none ∧ s.auth.reply = none) ∧
    (∃ s : State, Quiet s ∧ s.term.tx = some (.record 0 record1) ∧ s.closing = [] ∧ s.term.reply = none) ∧
    (∃ s : State, Quiet s ∧ s.term.tx = some (.record 0 record1) ∧ s.closing = 0 :: [] ∧
      (s.visit 0).bind (fun x => x.record) = some record1 ∧ s.parked = [] ∧ s.term.reply = none) ∧
    (∃ s : State, Quiet s ∧ s.term.state = .up ∧ s.term.tx = some (.reply ⟨0, 0x71, .ok, []⟩) ∧
      s.term.reply = some ⟨1, 0x71, .ok, []⟩ ∧ s.term.queue = [⟨2, 0x71, [], some .readStatus⟩]) :=
  ⟨⟨State.reset,
    quiet_of (by decide +kernel), by simp only [all_some]; decide +kernel⟩,
    ⟨({ State.reset with records := [(0, record1)], term := { State.reset.term with tx := some (.record 0 record1) } } : State),
    quiet_of (by decide +kernel), by decide +kernel⟩,
    ⟨({ (withVisit { visit3 .closing (some .reject) with lane := none, record := some record1 } State.reset) with records := [(0, record1)], closing := [0], term := { State.reset.term with tx := some (.record 0 record1) } } : State),
    quiet_of (by decide +kernel), by decide +kernel⟩,
    ⟨({ State.reset with term := { State.reset.term with tx := some (.reply ⟨0, 0x71, .ok, []⟩), reply := some ⟨1, 0x71, .ok, []⟩, queue := [⟨2, 0x71, [], some .readStatus⟩] } } : State),
    quiet_of (by decide +kernel), by decide +kernel⟩⟩

theorem test_hyps_LaneCommandsFrame :
    (∃ s : State, Quiet s ∧ laneActedOn (.applyClear 15) = some 15 ∧ laneActedOn (.visitFrameReceived 0 [0xA5]) = some 0) ∧
    (∃ s : State, OpenLink .terminal s ∧
      Instr.stepLane 0 15 ∈ [.openLane 0 15 .inGate, .setDirection 0 15 .inGate, .closeLane 0 15, .stepLane 0 15, .resumeLane 0 15, .resetLane 0 15, .setVerdict 0 15 .refer]) ∧
    (∃ s : State, OpenLink .terminal s ∧ Instr.cancelVisit 0 1 ∈ [.resolve 0 1 .refer, .cancelVisit 0 1]) :=
  ⟨⟨State.reset,
    quiet_of (by decide +kernel), by decide +kernel⟩,
    ⟨State.reset,
    openLink_of (by decide +kernel), by decide +kernel⟩,
    ⟨State.reset,
    openLink_of (by decide +kernel), by decide +kernel⟩⟩

theorem test_hyps_OpenTurnAndCloseLane_open :
    (∃ s : State, OpenLink .terminal s ∧ (s.lane 3).lcu.mode = .closed ∧ (s.profileOf 3).required ≠ 0) ∧
    (∃ s : State, OpenLink .terminal s ∧ (s.lane 3).lcu.mode = .closed ∧ (s.profileOf 3).required = 0) ∧
    (∃ s : State, OpenLink .terminal s ∧ (s.lane 3).lcu.mode = .draining) ∧
    (∃ s : State, OpenLink .terminal s ∧ (s.lane 3).lcu.mode = .warming) ∧
    (∃ s : State, OpenLink .terminal s ∧ 15 < 16) :=
  ⟨⟨State.reset,
    openLink_of (by decide +kernel), by decide +kernel⟩,
    ⟨{ State.reset with profiles := State.reset.profiles.set 0 { Profile.default with required := 0 } },
    openLink_of (by decide +kernel), by decide +kernel⟩,
    ⟨(lane3 (inMode .draining (some .closed))),
    openLink_of (by decide +kernel), by decide +kernel⟩,
    ⟨(lane3 (inMode .warming (some .openIn))),
    openLink_of (by decide +kernel), by decide +kernel⟩,
    ⟨State.reset,
    openLink_of (by decide +kernel), by decide +kernel⟩⟩

theorem test_hyps_OpenTurnAndCloseLane_turn :
    (∃ s : State, OpenLink .terminal s ∧ (s.lane 3).lcu.mode = .openIn ∧ s.bound 3 = none ∧ 3 ∉ s.parked) ∧
    (∃ s : State, OpenLink .terminal s ∧ (s.lane 3).lcu.mode = .openIn ∧ s.bound 3 = some (0, visit3 .identifying none)) ∧
    (∃ s : State, OpenLink .terminal s ∧ (s.lane 3).lcu.mode = .openIn ∧ s.bound 3 = none ∧ 3 ∈ s.parked) ∧
    (∃ s : State, OpenLink .terminal s ∧ (s.lane 3).lcu.mode = .closed ∧ 15 < 16) ∧
    (∃ s : State, OpenLink .terminal s ∧ (s.lane 3).lcu.mode = .draining) ∧
    (∃ s : State, OpenLink .terminal s ∧ (s.lane 3).lcu.mode = .warming) :=
  ⟨⟨(lane3 (inMode .openIn none)),
    openLink_of (by decide +kernel), by decide +kernel⟩,
    ⟨(withVisit (visit3 .identifying none) (lane3 (inMode .openIn none))),
    openLink_of (by decide +kernel), by decide +kernel⟩,
    ⟨{ (lane3 (inMode .openIn none)) with parked := [3] },
    openLink_of (by decide +kernel), by decide +kernel⟩,
    ⟨State.reset,
    openLink_of (by decide +kernel), by decide +kernel⟩,
    ⟨(lane3 (inMode .draining (some .closed))),
    openLink_of (by decide +kernel), by decide +kernel⟩,
    ⟨(lane3 (inMode .warming (some .openIn))),
    openLink_of (by decide +kernel), by decide +kernel⟩⟩

theorem test_hyps_HoldStepAndResume :
    (∃ s : State, OpenLink .terminal s ∧ s.term.rx = [] ∧ modeHoldable (s.lane 3).lcu.mode = true ∧ (s.lane 3).lcu.holds = 0) ∧
    (∃ s : State, OpenLink .terminal s ∧ s.term.rx = [] ∧ modeHoldable (s.lane 3).lcu.mode = false ∧ (s.lane 3).lcu.holds = 0 ∧
      15 < 16) ∧
    (∃ s : State, OpenLink .terminal s ∧ (s.lane 3).lcu.holds ≠ 0 ∧ (s.lane 3).lcu.pendingDir = true ∧
      s.bound 3 = some (0, visit3 .directed (some .admitted)) ∧ (s.lane 3).port.queue = []) ∧
    (∃ s : State, OpenLink .terminal s ∧ (s.lane 3).lcu.holds ≠ 0 ∧ (s.lane 3).lcu.pendingDir = false ∧
      s.bound 3 = some (0, visit3 .directed (some .admitted)) ∧ (s.lane 3).lcu.barrier = .down) ∧
    (∃ s : State, OpenLink .terminal s ∧ (s.lane 3).lcu.holds ≠ 0 ∧ (s.lane 3).lcu.pendingDir = false ∧
      (∀ (v : VisitIx) (x : Visit), s.bound 3 = some (v, x) → ¬ (x.state = .directed ∧ (s.lane 3).lcu.barrier = .down)) ∧
      (s.lane 3).lcu.mode = .openIn ∧ (s.lane 3).port.queue.head? = some ⟨0x01, 0, [1]⟩ ∧
      LaneFrame.content ⟨0x01, 0, [1]⟩ = .visit (.arrive .one) ∧ s.visit 23 = none) ∧
    (∃ s : State, OpenLink .terminal s ∧ (s.lane 3).lcu.holds ≠ 0 ∧ (s.lane 3).lcu.pendingDir = false ∧
      (∀ (v : VisitIx) (x : Visit), s.bound 3 = some (v, x) → ¬ (x.state = .directed ∧ (s.lane 3).lcu.barrier = .down)) ∧
      (s.lane 3).port.queue = []) :=
  ⟨⟨(lane3 (inMode .openIn none)),
    openLink_of (by decide +kernel), by decide +kernel⟩,
    ⟨State.reset,
    openLink_of (by decide +kernel), by decide +kernel⟩,
    ⟨(withVisit (visit3 .directed (some .admitted)) (open3 (fun p => { p with queue := [] }) fun u => { u with holds := 1, pendingDir := true, barrier := .down })),
    openLink_of (by decide +kernel), by decide +kernel⟩,
    ⟨(withVisit (visit3 .directed (some .admitted)) (open3 (fun p => { p with queue := [] }) fun u => { u with holds := 1, pendingDir := false, barrier := .down })),
    openLink_of (by decide +kernel), by decide +kernel⟩,
    ⟨(open3 (fun p => { p with queue := [⟨0x01, 0, [1]⟩] }) fun u => { u with holds := 1, pendingDir := false, barrier := .down }),
    openLink_of (by decide +kernel), by simp only [all_pair]; decide +kernel⟩,
    ⟨(open3 (fun p => { p with queue := [] }) fun u => { u with holds := 1, pendingDir := false, barrier := .down }),
    openLink_of (by decide +kernel), by simp only [all_pair]; decide +kernel⟩⟩

theorem test_hyps_ResetLane :
    (∃ s : State, OpenLink .terminal s ∧ s.bound 3 = some (0, visit3 .identifying none) ∧ s.records.length < 32 ∧ s.parked = []) ∧
    (∃ s : State, OpenLink .terminal s ∧ s.bound 3 = none ∧ 15 < 16) :=
  ⟨⟨(withVisit (visit3 .identifying none) (lane3 (inMode .openIn none))),
    openLink_of (by decide +kernel), by decide +kernel⟩,
    ⟨State.reset,
    openLink_of (by decide +kernel), by decide +kernel⟩⟩

theorem test_hyps_WriteProfile :
    (∃ s : State, OpenLink .terminal s ∧ profileOk Profile.default = true) ∧
    (∃ s : State, OpenLink .terminal s ∧ ∀ l : LaneId, (s.lane l).lcu.mode ≠ .warming) ∧
    (∃ s : State, OpenLink .terminal s ∧ profileOk { Profile.default with warmup := 0 } = false ∧ 7 < 8) :=
  ⟨⟨(lane3 (inMode .warming (some .openIn))),
    openLink_of (by decide +kernel), by decide +kernel⟩,
    ⟨State.reset,
    openLink_of (by decide +kernel), by decide +kernel⟩,
    ⟨State.reset,
    openLink_of (by decide +kernel), by decide +kernel⟩⟩

theorem test_hyps_AssignProfile :
    (∃ s : State, OpenLink .terminal s ∧ (s.lane 15).lcu.mode = .closed) ∧
    (∃ s : State, OpenLink .terminal s ∧ (s.lane 3).lcu.mode ≠ .closed) ∧
    (∃ s : State, OpenLink .terminal s ∧ 15 < 16 ∧ 7 < 8) :=
  ⟨⟨State.reset,
    openLink_of (by decide +kernel), by decide +kernel⟩,
    ⟨(lane3 (inMode .openIn none)),
    openLink_of (by decide +kernel), by decide +kernel⟩,
    ⟨State.reset,
    openLink_of (by decide +kernel), by decide +kernel⟩⟩

theorem test_hyps_LaneAndVisitReads :
    (OpenLink .terminal State.reset ∧ referred1.lane = none ∧ checking3.lane = some 3) ∧
    (∃ s : State, OpenLink .terminal s ∧ s.visitNumbered 65535 = some (0, referred1) ∧ s.visit 0 = some (referred1)) ∧
    (∃ s : State, OpenLink .terminal s ∧ (∀ (v : VisitIx) (x : Visit), s.visit v = some x → x.number ≠ 1) ∧ s.visit 23 = none) ∧
    (∃ s : State, OpenLink .authority s ∧ s.visit 0 = some (referred1) ∧ s.standingHold (referred1) = true ∧
      s.visitNumbered 65535 = some (0, referred1)) ∧
    (∃ s : State, OpenLink .authority s ∧ (∀ x : Visit, s.visit 0 = some x → s.standingHold x = false)) ∧
    (∃ s : State, OpenLink .authority s ∧ (∀ (v : VisitIx) (x : Visit), s.visitNumbered 1 = some (v, x) →
      s.standingHold x = false) ∧ 23 < 24 ∧ 65535 < 65536 ∧ 15 < 16) :=
  ⟨⟨openLink_of (by decide +kernel), by decide +kernel⟩,
    ⟨({ (withVisit (referred1) State.reset) with holdList := [(0, ⟨code1, .customs, 1, none⟩)] } : State),
    openLink_of (by decide +kernel), by decide +kernel⟩,
    ⟨State.reset,
    openLink_of (by decide +kernel), by simp only [all_some]; decide +kernel⟩,
    ⟨({ (withVisit (referred1) State.reset) with holdList := [(0, ⟨code1, .customs, 1, none⟩)] } : State),
    openLink_of (by decide +kernel), by decide +kernel⟩,
    ⟨(withVisit (referred1) State.reset),
    openLink_of (by decide +kernel), by simp only [all_some]; decide +kernel⟩,
    ⟨State.reset,
    openLink_of (by decide +kernel), by simp only [all_pair]; decide +kernel⟩⟩

theorem test_hyps_SetVerdict :
    (∃ s : State, OpenLink .terminal s ∧ (s.lane 3).lcu.holds ≠ 0 ∧ s.bound 3 = some (0, checking3) ∧ hasBit (0#32) 19 = false) ∧
    (∃ s : State, OpenLink .terminal s ∧ s.bound 3 = some (0, visit3 .identifying none)) ∧
    (∃ s : State, OpenLink .terminal s ∧ (s.lane 3).lcu.holds = 0 ∧ s.bound 3 = none ∧ 15 < 16) ∧
    (∃ s : State, OpenLink .terminal s ∧ (s.lane 3).lcu.holds ≠ 0 ∧
      s.bound 3 = some (0, { visit3 .checking none with reasons := 0x80000#32 }) ∧ hasBit (0x80000#32) 19 = true) :=
  ⟨⟨(withVisit (checking3) (open3 (fun p => { p with queue := [] }) fun u => { u with holds := 1, pendingDir := false, barrier := .down })),
    openLink_of (by decide +kernel), by decide +kernel⟩,
    ⟨(withVisit (visit3 .identifying none) (open3 (fun p => { p with queue := [] }) fun u => { u with holds := 1, pendingDir := false, barrier := .down })),
    openLink_of (by decide +kernel), by decide +kernel⟩,
    ⟨State.reset,
    openLink_of (by decide +kernel), by decide +kernel⟩,
    ⟨(withVisit ({ visit3 .checking none with reasons := 0x80000#32 }) (open3 (fun p => { p with queue := [] }) fun u => { u with holds := 1, pendingDir := false, barrier := .down })),
    openLink_of (by decide +kernel), by decide +kernel⟩⟩

/-- Lane 3 held by OPERATOR with a visit bound, one bay, and a REFERRED visit in record 1 in that bay. -/
def heldOneBay (x : Visit) (wait : List VisitIx) : State :=
  { (withVisit x (open3 id fun u => { u with holds := 1 })).setVisit 1 (some { referred1 with bay := some 0 }) with
    bayCount := 1, bayWait := wait }

theorem test_hyps_SetVerdict_bays :
    (∃ s : State, OpenLink .terminal s ∧ (s.lane 3).lcu.holds ≠ 0 ∧ s.bound 3 = some (0, checking3) ∧ 0 ∉ s.bayWait ∧ s.freeBay = some 0) ∧
    (∃ s : State, OpenLink .terminal s ∧ (s.lane 3).lcu.holds ≠ 0 ∧ s.bound 3 = some (0, checking3) ∧ 0 ∉ s.bayWait ∧
      s.freeBay = none ∧ s.enabled .bayWait = true) ∧
    (∃ s : State, OpenLink .terminal s ∧ (s.lane 3).lcu.holds ≠ 0 ∧ s.bound 3 = some (0, visit3 .waitingBay (some .refer)) ∧
      0 ∈ s.bayWait ∧ (visit3 .waitingBay (some .refer)).bay = none) ∧
    (∃ (s : State) (x : Visit), OpenLink .terminal s ∧ (s.lane 3).lcu.holds ≠ 0 ∧ s.bound 3 = some (0, x) ∧ x.bay ≠ none ∧
      x.state ≠ .identifying) :=
  ⟨⟨withVisit checking3 (open3 id fun u => { u with holds := 1 }), openLink_of (by decide +kernel), by decide +kernel⟩,
    ⟨heldOneBay checking3 [], openLink_of (by decide +kernel), by decide +kernel⟩,
    ⟨heldOneBay (visit3 .waitingBay (some .refer)) [0], openLink_of (by decide +kernel), by decide +kernel⟩,
    ⟨withVisit { visit3 .directed (some .refer) with bay := some 15 } (open3 id fun u => { u with holds := 1 }),
      { visit3 .directed (some .refer) with bay := some 15 }, openLink_of (by decide +kernel), by decide +kernel⟩⟩

/-- SET_VERDICT with REFER: the lowest FREE bay, or with none FREE the tail of the Bay Wait Queue (R58, R64). -/
theorem test_setVerdict_bays :
    (((after (.setVerdict 1 3 .refer) (withVisit checking3 (open3 id fun u => { u with holds := 1 }))).visit 0).map
      fun y => (y.state, y.bay, y.lastBay)) = some (.directed, some 0, some 0) ∧
    (let t := after (.setVerdict 1 3 .refer) (heldOneBay checking3 [])
    (t.visit 0).map (fun y => (y.state, y.bay)) = some (.waitingBay, none) ∧ t.bayWait = [0] ∧ t.eventFlag .bayWait 3 = true) := by
  decide +kernel

theorem test_hyps_ResolveAndCancel :
    (∃ s : State, OpenLink .terminal s ∧ s.visitNumbered 65535 = some (0, referred1) ∧ s.standingHold (referred1) = false ∧
      s.parked = [] ∧ s.records.length = 31) ∧
    (∃ s : State, OpenLink .terminal s ∧ s.visitNumbered 65535 = some (0, referred1) ∧ s.standingHold (referred1) = false ∧
      s.parked = [] ∧ s.records.length = 32) ∧
    (∃ s : State, OpenLink .terminal s ∧ s.visitNumbered 65535 = some (0, referred1) ∧ s.standingHold (referred1) = true) ∧
    (∃ s : State, OpenLink .terminal s ∧ s.visitNumbered 1 = some (0, visit3 .identifying none)) ∧
    (∃ s : State, OpenLink .terminal s ∧ s.visitNumbered 1 = none ∧ 65535 < 65536) :=
  ⟨⟨({ (withVisit (referred1) State.reset) with records := List.replicate 31 (0, record1), term := { State.reset.term with tx := some (.record 0 record1) } } : State),
    openLink_of (by decide +kernel), by decide +kernel⟩,
    ⟨({ (withVisit (referred1) State.reset) with records := List.replicate 32 (0, record1), term := { State.reset.term with tx := some (.record 0 record1) } } : State),
    openLink_of (by decide +kernel), by decide +kernel⟩,
    ⟨({ (withVisit (referred1) State.reset) with holdList := [(0, ⟨code1, .customs, 1, none⟩)] } : State),
    openLink_of (by decide +kernel), by decide +kernel⟩,
    ⟨(withVisit (visit3 .identifying none) (lane3 (inMode .openIn none))),
    openLink_of (by decide +kernel), by decide +kernel⟩,
    ⟨State.reset,
    openLink_of (by decide +kernel), by decide +kernel⟩⟩

theorem test_hyps_BaysAndPolicy :
    (∃ s : State, OpenLink .terminal s ∧ (∀ (v : VisitIx) (x : Visit), s.visit v = some x → ∀ b : Nat, x.bay = some b → b < 1) ∧
      s.bayWait = []) ∧
    (∃ s : State, OpenLink .terminal s ∧ s.visit 0 = some ({ visit3 .referred (some .refer) with lane := none, bay := some 3 }) ∧
      3 ≤ 3) ∧
    (∃ s : State, OpenLink .terminal s ∧ 16 < 17) ∧
    (State.reset.freeBay = some 0) ∧
    (({ (withVisit (visit3 .waitingBay (some .refer)) (open3 id id)) with bayWait := [0] } : State).bayWait = 0 :: [] ∧
      ({ (withVisit (visit3 .waitingBay (some .refer)) (open3 id id)) with bayWait := [0] } : State).freeBay = some 0 ∧
      ({ (withVisit (visit3 .waitingBay (some .refer)) (open3 id id)) with bayWait := [0] } : State).visit 0 = some (visit3 .waitingBay (some .refer))) ∧
    (State.reset.bayWait = []) :=
  ⟨⟨State.reset,
    openLink_of (by decide +kernel), by simp only [all_some]; decide +kernel⟩,
    ⟨(withVisit ({ visit3 .referred (some .refer) with lane := none, bay := some 3 }) State.reset),
    openLink_of (by decide +kernel), by decide +kernel⟩,
    ⟨State.reset,
    openLink_of (by decide +kernel), by decide +kernel⟩,
    by decide +kernel,
    by decide +kernel,
    by decide +kernel⟩

theorem test_hyps_LoadAndCancelBooking :
    (∃ s : State, OpenLink .terminal s ∧ bookingOk { load1 with yard := 255 } = false) ∧
    (∃ s : State, OpenLink .terminal s ∧ s.window load1.window = none) ∧
    (∃ s : State, OpenLink .terminal s ∧ bookingOk load1 = true ∧ s.window load1.window = some ⟨100, 60, 2, 1⟩ ∧
      ∃ p ∈ s.bookings, p.2.ref = load1.ref) ∧
    (∃ s : State, OpenLink .terminal s ∧ s.window load1.window = some ⟨100, 60, 2, 2⟩ ∧ s.bookings = []) ∧
    (∃ s : State, OpenLink .terminal s ∧ bookingOk load1 = true ∧ s.window load1.window = some ⟨100, 60, 2, 1⟩ ∧ s.bookings = []) ∧
    (∃ s : State, OpenLink .terminal s ∧ s.bookingOf 7 = some (0, booking1 .opened) ∧ s.window 0 = some ⟨100, 60, 2, 1⟩) ∧
    (∃ s : State, OpenLink .terminal s ∧ s.bookingOf 7 = some (0, booking1 .entered) ∧ s.window 0 = some ⟨100, 60, 2, 1⟩) ∧
    (∃ s : State, OpenLink .terminal s ∧ s.bookingOf 7 = some (0, booking1 .held) ∧ s.window 0 = some ⟨100, 60, 2, 1⟩) ∧
    (∃ s : State, OpenLink .terminal s ∧ s.bookingOf 7 = some (0, booking1 .closed) ∧ s.window 0 = some ⟨100, 60, 2, 1⟩) ∧
    (∃ s : State, OpenLink .terminal s ∧ s.bookingOf 7 = some (0, booking1 .cancelled) ∧ s.window 0 = some ⟨100, 60, 2, 1⟩) ∧
    (∃ s : State, OpenLink .terminal s ∧ s.bookings = [] ∧ 4294967295 ≤ 4294967295 ∧ 4294967295 < 4294967296) ∧
    (([(0, booking1 .opened), (2, booking1 .closed)] : Table Booking).Pairwise (fun p q => p.1 < q.1)) :=
  ⟨⟨State.reset,
    openLink_of (by decide +kernel), by decide +kernel⟩,
    ⟨State.reset,
    openLink_of (by decide +kernel), by decide +kernel⟩,
    ⟨(booked .opened),
    openLink_of (by decide +kernel), by decide +kernel⟩,
    ⟨{ State.reset with windows := State.reset.windows.set 0 (some ⟨100, 60, 2, 2⟩) },
    openLink_of (by decide +kernel), by decide +kernel⟩,
    ⟨({ booked .opened with bookings := [] } : State),
    openLink_of (by decide +kernel), by decide +kernel⟩,
    ⟨(booked .opened),
    openLink_of (by decide +kernel), by decide +kernel⟩,
    ⟨(booked .entered),
    openLink_of (by decide +kernel), by decide +kernel⟩,
    ⟨(booked .held),
    openLink_of (by decide +kernel), by decide +kernel⟩,
    ⟨(booked .closed),
    openLink_of (by decide +kernel), by decide +kernel⟩,
    ⟨(booked .cancelled),
    openLink_of (by decide +kernel), by decide +kernel⟩,
    ⟨State.reset,
    openLink_of (by decide +kernel), by decide +kernel⟩,
    by decide +kernel⟩

theorem test_hyps_PurgeBooking :
    (∃ s : State, OpenLink .terminal s ∧ s.bookings = [] ∧ 4294967295 < 4294967296) ∧
    (∃ s : State, OpenLink .terminal s ∧ s.bookingOf 7 = some (0, booking1 .closed) ∧ s.window 0 = some ⟨100, 60, 2, 1⟩) ∧
    (∃ s : State, OpenLink .terminal s ∧ s.bookingOf 7 = some (0, booking1 .cancelled) ∧ s.window 0 = some ⟨100, 60, 2, 1⟩) ∧
    (∃ s : State, OpenLink .terminal s ∧ s.bookingOf 7 = some (0, booking1 .held) ∧ s.window 0 = some ⟨100, 60, 2, 1⟩) ∧
    (∃ s : State, OpenLink .terminal s ∧ s.bookingOf 7 = some (0, booking1 .opened) ∧ s.window 0 = some ⟨100, 60, 2, 1⟩) ∧
    (∃ s : State, OpenLink .terminal s ∧ s.bookingOf 7 = some (0, booking1 .entered) ∧ s.window 0 = some ⟨100, 60, 2, 1⟩) :=
  ⟨⟨State.reset,
    openLink_of (by decide +kernel), by decide +kernel⟩,
    ⟨(booked .closed),
    openLink_of (by decide +kernel), by decide +kernel⟩,
    ⟨(booked .cancelled),
    openLink_of (by decide +kernel), by decide +kernel⟩,
    ⟨(booked .held),
    openLink_of (by decide +kernel), by decide +kernel⟩,
    ⟨(booked .opened),
    openLink_of (by decide +kernel), by decide +kernel⟩,
    ⟨(booked .entered),
    openLink_of (by decide +kernel), by decide +kernel⟩⟩

theorem test_hyps_WindowsAndClock :
    (∃ s : State, OpenLink .terminal s ∧ 1048336 + 240 - 1 ≤ 1048575 ∧ ∀ w : Window, s.window 63 = some w → w.used = 0) ∧
    (∃ s : State, OpenLink .terminal s ∧ s.window 63 = some ⟨1048336, 240, 2, 1⟩ ∧ 0 < 1 ∧ 0 < (1 : Nat)) ∧
    (∃ s : State, OpenLink .terminal s ∧ s.window 63 = some ⟨1048336, 240, 2, 1⟩ ∧ 1 ≤ 1) ∧
    (∃ s : State, OpenLink .terminal s ∧ 63 < 64 ∧ 240 < 241 ∧ 1048575 < 1048337 + 240 - 1) ∧
    (∃ s : State, OpenLink .terminal s ∧ s.window 63 = some ⟨1048336, 240, 2, 0⟩) ∧
    (∃ s : State, OpenLink .terminal s ∧ s.window 63 = none) ∧
    (∃ s : State, OpenLink .terminal s ∧ 1048575 ≤ 1048575 ∧ 59 ≤ 59 ∧ 1048575 < 1048576 ∧ 59 < 60) :=
  ⟨⟨State.reset,
    openLink_of (by decide +kernel), by simp only [all_some]; decide +kernel⟩,
    ⟨({ State.reset with windows := State.reset.windows.set 63 (some ⟨1048336, 240, 2, 1⟩) } : State),
    openLink_of (by decide +kernel), by decide +kernel⟩,
    ⟨({ State.reset with windows := State.reset.windows.set 63 (some ⟨1048336, 240, 2, 1⟩) } : State),
    openLink_of (by decide +kernel), by decide +kernel⟩,
    ⟨State.reset,
    openLink_of (by decide +kernel), by decide +kernel⟩,
    ⟨({ State.reset with windows := State.reset.windows.set 63 (some ⟨1048336, 240, 2, 0⟩) } : State),
    openLink_of (by decide +kernel), by decide +kernel⟩,
    ⟨State.reset,
    openLink_of (by decide +kernel), by decide +kernel⟩,
    ⟨State.reset,
    openLink_of (by decide +kernel), by decide +kernel⟩⟩

theorem test_hyps_Slack :
    (∃ s : State, OpenLink .terminal s ∧ 120 ≤ 120 ∧ 120 < 121) ∧
    (Table.lookup (booked .held).bookings 0 = some (booking1 .held) ∧ (booked .held).window 0 = some ⟨100, 60, 2, 1⟩ ∧
      69 + (booked .held).earlySlack < 100) ∧
    (Table.lookup (booked .held).bookings 0 = some (booking1 .held) ∧ (booked .held).window 0 = some ⟨100, 60, 2, 1⟩ ∧
      100 ≤ 70 + (booked .held).earlySlack ∧ 174 ≤ 100 + 60 - 1 + (booked .held).lateSlack) ∧
    (Table.lookup (booked .held).bookings 0 = some (booking1 .held) ∧ (booked .held).window 0 = some ⟨100, 60, 2, 1⟩ ∧
      100 + 60 - 1 + (booked .held).lateSlack < 175) :=
  ⟨⟨State.reset,
    openLink_of (by decide +kernel), by decide +kernel⟩,
    by decide +kernel,
    by decide +kernel,
    by decide +kernel⟩

theorem test_hyps_AdmissionLookup :
    ((withVisit (checking3) State.reset).visit 0 = some (checking3)) ∧
    ((booked .opened).liveBooking code1 .drop = some (0, booking1 .opened)) ∧
    ((booked .held).liveBooking code1 .drop = some (0, booking1 .held) ∧ (booking1 .held).state ≠ .opened) ∧
    ((booked .closed).liveBooking code1 .drop = none ∧ ∃ p ∈ (booked .closed).bookings, p.2.code = code1 ∧ p.2.kind = .drop) ∧
    (State.reset.bookings = []) ∧
    (Visit.plate ({ visit3 .checking none with arrival := some 175, plate := some ([0x41], 80), carried := [{ carried .single with booking := some 0 }] }) = some ([0x41], 80) ∧
      Visit.listed ({ visit3 .checking none with arrival := some 175, plate := some ([0x41], 80), carried := [{ carried .single with booking := some 0 }] }) ≠ [] ∧
      80 < 81 ∧ 80 ≤ 80) ∧
    (Visit.arrival (checking3) = none ∧ Visit.dir (checking3) = .inGate ∧ Visit.listed { checking3 with picks := [0] } ≠ []) ∧
    (∃ b : Booking, Table.lookup (booked .held).bookings 0 = some b ∧ b.plate ≠ some [0x42]) ∧
    (({ booked .held with clock := some ⟨200, 0, 0⟩, windows := (booked .held).windows.set 1 (some ⟨200, 1, 1, 0⟩) } : State).currentWindow = some 1 ∧
      ({ booked .held with clock := some ⟨200, 0, 0⟩, windows := (booked .held).windows.set 1 (some ⟨200, 1, 1, 0⟩) } : State).window 1 = some ⟨200, 1, 1, 0⟩ ∧
      1 ≠ (booking1 .held).window ∧
      ({ booked .held with clock := some ⟨200, 0, 0⟩, windows := (booked .held).windows.set 1 (some ⟨200, 1, 1, 0⟩) } : State).window 0 = some ⟨100, 60, 2, 1⟩) ∧
    (State.reset.currentWindow = none) :=
  ⟨by decide +kernel,
    by decide +kernel,
    by decide +kernel,
    by decide +kernel,
    by decide +kernel,
    by decide +kernel,
    by decide +kernel,
    ⟨booking1 .held, by decide +kernel⟩,
    by decide +kernel,
    by decide +kernel⟩

theorem test_hyps_ClosureRequests :
    (∃ s : State, OpenLink .terminal s ∧ codeValid [] = false ∧ sealsOk [] = false ∧ sealsOk [[0x41], [0x41]] = false ∧
      codeForm [] = false) ∧
    (∃ s : State, OpenLink .terminal s ∧ s.closureOf code1 = some (0, ⟨code1, [[0x41]], false, 1⟩) ∧ codeValid code1 = true ∧
      codeForm code1 = true ∧ sealsOk [[0x41], [0x42], [0x43]] = true) ∧
    (∃ s : State, OpenLink .terminal s ∧ s.closureOf code1 = some (0, ⟨code1, [[0x41]], false, 0⟩) ∧ codeValid code1 = true ∧
      codeForm code1 = true) ∧
    (∃ s : State, OpenLink .terminal s ∧ s.closures = [] ∧ ∀ (v : VisitIx) (x : Visit), s.visit v = some x →
      ∀ e ∈ x.carried, ¬ (e.code = code1 ∧ e.closure = .awaitingRecord)) ∧
    (∃ s : State, OpenLink .terminal s ∧ (∀ p ∈ s.closures, p.2.code ≠ code1) ∧ 1024 ≤ s.closures.length ∧ s.victim = some 1023 ∧
      (Table.lookup s.closures 1023).isSome = true) ∧
    (∃ s : State, OpenLink .terminal s ∧ (∀ p ∈ s.closures, p.2.code ≠ code1) ∧ 1024 ≤ s.closures.length ∧ s.victim = none) ∧
    ((withVisit (checking3) State.reset).visit 0 = some (checking3)) :=
  ⟨⟨State.reset,
    openLink_of (by decide +kernel), by decide +kernel⟩,
    ⟨(sealed 1),
    openLink_of (by decide +kernel), by decide +kernel⟩,
    ⟨(sealed 0),
    openLink_of (by decide +kernel), by decide +kernel⟩,
    ⟨State.reset,
    openLink_of (by decide +kernel), by simp only [all_some]; decide +kernel⟩,
    ⟨fullClosures false,
    openLink_of (by decide +kernel), fullClosures_codes false, fullClosures_length false, by decide +kernel, by decide +kernel⟩,
    ⟨fullClosures true,
    openLink_of (by decide +kernel), fullClosures_codes true, fullClosures_length true, fullClosures_victim⟩,
    by decide +kernel⟩

theorem test_hyps_TableReads :
    (OpenLink .terminal State.reset) ∧
    (OpenLink .authority State.reset) ∧
    (∃ s : State, OpenLink .terminal s ∧ s.bookingOf 7 = some (0, booking1 .held) ∧ codeForm code1 = true ∧
      ∃ p ∈ s.bookings, p.2.code = code1 ∧ p.2.kind = .drop) ∧
    (∃ s : State, OpenLink .terminal s ∧ s.closureOf code1 = some (0, ⟨code1, [[0x41]], false, 0⟩) ∧ s.recency[0]? = some 0 ∧
      s.recency.length ≤ 1) ∧
    (∃ s : State, OpenLink .terminal s ∧ OpenLink .authority s ∧ s.holdOf code1 = some (0, ⟨code1, .customs, 1, none⟩)) ∧
    (codeForm [] = false ∧ 511 < 512 ∧ 4095 < 4096 ∧ 1023 < 1024 ∧ 127 < 128 ∧ 63 < 64 ∧ 17 < 18) :=
  ⟨openLink_of (by decide +kernel),
    openLink_of (by decide +kernel),
    ⟨(booked .held),
    openLink_of (by decide +kernel), by decide +kernel⟩,
    ⟨(sealed 0),
    openLink_of (by decide +kernel), by decide +kernel⟩,
    ⟨({ (withVisit (referred1) State.reset) with holdList := [(0, ⟨code1, .customs, 1, none⟩)] } : State),
    openLink_of (by decide +kernel), openLink_of (by decide +kernel), by decide +kernel⟩,
    by decide +kernel⟩

theorem test_hyps_RulesDirectionsMessages :
    (∃ s : State, OpenLink .terminal s ∧ ruleOk Rule.default = true ∧ ruleOk { Rule.default with tolerance := 64 } = false) ∧
    (∃ s : State, OpenLink .terminal s ∧ directionOk ⟨.refer, some 254, 127, .left⟩ = true ∧
      directionOk ⟨.refer, none, 128, .left⟩ = false ∧ ∀ j : Fin 64, s.directions.get j = none) ∧
    (∃ s : State, OpenLink .terminal s ∧ s.directions.get 63 = some ⟨.refer, some 254, 127, .left⟩) ∧
    (∃ s : State, OpenLink .terminal s ∧ itemsOk (1 :: 2 :: List.replicate 38 0x20) = true ∧
      itemsOk (List.replicate 41 0x20) = false ∧ itemsOk [3] = false) :=
  ⟨⟨State.reset,
    openLink_of (by decide +kernel), by decide +kernel⟩,
    ⟨State.reset,
    openLink_of (by decide +kernel), by decide +kernel⟩,
    ⟨({ State.reset with directions := State.reset.directions.set 63 (some ⟨.refer, some 254, 127, .left⟩) } : State),
    openLink_of (by decide +kernel), by decide +kernel⟩,
    ⟨State.reset,
    openLink_of (by decide +kernel), by decide +kernel⟩⟩

theorem test_hyps_DecisionTrail :
    (∃ s : State, OpenLink .terminal s ∧ s.frozen = false) ∧
    (∃ s : State, OpenLink .terminal s ∧ s.frozen = true ∧ s.trail = []) ∧
    (∃ s : State, OpenLink .terminal s ∧ s.frozen = true ∧ s.cursor = some 0 ∧
      s.trail[0]? = some ⟨0, 1, 3, .refer, 0, .verdict, none, false⟩) :=
  ⟨⟨State.reset,
    openLink_of (by decide +kernel), by decide +kernel⟩,
    ⟨({ State.reset with frozen := true } : State),
    openLink_of (by decide +kernel), by decide +kernel⟩,
    ⟨({ State.reset with trail := [⟨0, 1, 3, .refer, 0, .verdict, none, false⟩], frozen := true, cursor := some 0 } : State),
    openLink_of (by decide +kernel), by decide +kernel⟩⟩

theorem test_hyps_HoldRequests :
    (∃ s : State, OpenLink .authority s ∧ codeValid code1 = true ∧ codeForm code1 = true ∧ s.holdList = []) ∧
    (∃ s : State, OpenLink .authority s ∧ s.holdOf code1 = some (0, ⟨code1, .customs, 1, none⟩)) ∧
    (∃ s : State, OpenLink .authority s ∧ (∀ p ∈ s.holdList, p.2.code ≠ code1) ∧ 512 ≤ s.holdList.length) ∧
    (∃ s : State, OpenLink .authority s ∧ codeValid [] = false ∧ codeForm [] = false ∧ 4294967295 < 4294967296) ∧
    (OpenLink .terminal State.reset) :=
  ⟨⟨State.reset,
    openLink_of (by decide +kernel), by decide +kernel⟩,
    ⟨({ (withVisit (referred1) State.reset) with holdList := [(0, ⟨code1, .customs, 1, none⟩)] } : State),
    openLink_of (by decide +kernel), by decide +kernel⟩,
    ⟨({ State.reset with holdList := (List.range 512).map fun i => (i, ⟨num 11 i, .customs, 0, none⟩) } : State),
    openLink_of (by decide +kernel), by decide +kernel⟩,
    ⟨State.reset,
    openLink_of (by decide +kernel), by decide +kernel⟩,
    openLink_of (by decide +kernel)⟩

theorem test_hyps_HoldsOnVisits :
    ((withVisit (checking3) State.reset).visit 0 = some (checking3)) ∧
    ((withVisit (visit3 .referred (some .refer)) State.reset).visit 0 = some (visit3 .referred (some .refer))) ∧
    ((visit3 .closing none).state = .closing) ∧
    ((withVisit ({ visit3 .directed (some .admitted) with carried := [carried .single] }) (open3 id id)).bound 3 = some (0,
      { visit3 .directed (some .admitted) with carried := [carried .single] }) ∧
      Visit.verdict ({ visit3 .directed (some .admitted) with carried := [carried .single] }) ≠ some .refer) ∧
    (({ (withVisit (referred1) State.reset) with holdList := [(0, ⟨code1, .customs, 1, none⟩)] } : State).visit 0 = some (referred1) ∧
      ({ (withVisit (referred1) State.reset) with holdList := [(0, ⟨code1, .customs, 1, none⟩)] } : State).carriesHeld (referred1) = true) :=
  ⟨by decide +kernel,
    by decide +kernel,
    by decide +kernel,
    by decide +kernel,
    by decide +kernel⟩

theorem test_hyps_NoticesAndSlots :
    (∃ s : State, OpenLink .terminal s ∧ 0xFFF8#16 &&& 7 = 0 ∧ 4#16 &&& 7 ≠ 0) ∧
    (OpenLink .authority State.reset) ∧
    ((List.replicate 32 0#8).length = 32 ∧ 7 < 8 ∧ (List.replicate 31 0#8).length ≠ 32) :=
  ⟨⟨State.reset,
    openLink_of (by decide +kernel), by decide +kernel⟩,
    openLink_of (by decide +kernel),
    by decide +kernel⟩

theorem test_hyps_Restart :
    OpenLink .terminal State.reset :=
  openLink_of (by decide +kernel)

theorem test_hyps_EventEnablesAndFaults :
    (∃ s : State, OpenLink .terminal s ∧ (511#16).toNat < 512 ∧ 512 ≤ (512#16).toNat) ∧
    (∃ s : State, OpenLink .terminal s ∧ (15#16).toNat < (if (16 : PortId).val < 16 then 512 else 16) ∧
      (511#16).toNat < (if (15 : PortId).val < 16 then 512 else 16)) ∧
    ((if 17 < 16 then 512 else 16) ≤ (16#16).toNat ∧ 17 < 18) ∧
    (hasBit (FaultRecord.reset true).mask 0 = false ∧ (FaultRecord.reset true).pointer = none) ∧
    (hasBit ({ FaultRecord.reset true with mask := 1 } : FaultRecord).mask 0 = true) ∧
    (hasBit (State.reset.faults.get 0).mask 0 = false ∧ hasBit (State.reset.faults.get 0).status 0 = false) :=
  ⟨⟨State.reset,
    openLink_of (by decide +kernel), by decide +kernel⟩,
    ⟨State.reset,
    openLink_of (by decide +kernel), by decide +kernel⟩,
    by decide +kernel,
    by decide +kernel,
    by decide +kernel,
    by decide +kernel⟩

theorem test_hyps_UnknownRequests :
    (∃ s : State, OpenLink .terminal s ∧ Link.knows .terminal 0xFF = false) ∧
    (requestOf (.readStatus 1) = some (.terminal, 1, .readStatus) ∧ Request.wf .readStatus = true) ∧
    (∃ s : State, OpenLink .authority s ∧ Link.knows .authority 0x60 = true ∧ parseRequest 0x60 [] = none) :=
  ⟨⟨State.reset,
    openLink_of (by decide +kernel), by decide +kernel⟩,
    by decide +kernel,
    ⟨State.reset,
    openLink_of (by decide +kernel), by decide +kernel⟩⟩

theorem test_hyps_VerdictComposition :
    (hasBit (0x80000#32) 19 = true) ∧
    (hasBit (1#32) 19 = false ∧ hasBit (1#32) (0 : Fin 19).val = true ∧ defaultPolicy.get 0 = .reject) ∧
    (hasBit (4#32) 19 = false ∧ (∀ i : Fin 19, hasBit (4#32) i.val = true → defaultPolicy.get i ≠ .reject) ∧
      hasBit (4#32) (2 : Fin 19).val = true ∧ defaultPolicy.get 2 = .refer) ∧
    ((∀ i : Fin 19, hasBit (0x200#32) i.val = true → defaultPolicy.get i = .note)) ∧
    ((withVisit ({ visit3 .directed (some .admitted) with carried := [carried .single] }) (open3 id id)).bound 3 = some (0,
      { visit3 .directed (some .admitted) with carried := [carried .single] })) ∧
    ((State.reset.profileOf 3).audit = 0) ∧
    (∃ s : State, 0 < (s.profileOf 3).audit ∧ 0 < (s.lane 3).lcu.audit) ∧
    (∃ s : State, 0 < (s.profileOf 3).audit ∧ (s.lane 3).lcu.audit = 0) :=
  ⟨by decide +kernel,
    by decide +kernel,
    by decide +kernel,
    by decide +kernel,
    by decide +kernel,
    by decide +kernel,
    ⟨({ (open3 id fun u => { u with audit := 1 }) with profiles := State.reset.profiles.set 0 { Profile.default with audit := 2 } } : State), by decide +kernel⟩,
    ⟨({ State.reset with profiles := State.reset.profiles.set 0 { Profile.default with audit := 2 } } : State), by decide +kernel⟩⟩

theorem test_hyps_ContainerCodes :
    9 < 10 ∧ codeValid code1 = true :=
  by decide +kernel

theorem test_hyps_MatcherRule :
    (matcherOk { Rule.default.a with condition := .lt, value := 0 } = true) ∧
    (matcherOk { Rule.default.a with measure := .extent, value := 1023 } = true) ∧
    (∃ (s : State) (m : MatchState), s.judgedState 3 0 ⟨.single, .left, .dent, 1, 1⟩ = some m) :=
  ⟨by decide +kernel,
    by decide +kernel,
    ⟨({ (lane3 fun y => { y with sweep := { y.sweep with info := some ⟨1, 1, 1, 1, 0, [⟨.single, 0, 0, false, false⟩]⟩ } }) with rules := State.reset.rules.set 0 { Rule.default with enabled := true } } : State), ⟨.single, 0, 0, false, false⟩, by decide +kernel⟩⟩

theorem test_hyps_ParseEncode :
    (Request.wf (.openLane 255 .inGate) = true) ∧
    (LaneFrame.payload ⟨1, 0, List.replicate 120 0⟩ = List.replicate 120 0 ∧ (List.replicate 120 0#8).length ≤ 120) :=
  ⟨by decide +kernel,
    by decide +kernel⟩

theorem test_hyps_StepsKeepQuietAndBounds :
    ∃ s : State, Quiet s ∧ step s = .next s :=
  ⟨State.reset,
    quiet_of (by decide +kernel), rfl⟩

/-! ### States that meet the hypotheses of the clauses on parked lanes, checking, findings, holds and the counts -/

/-- The part with open visits in all 24 records, `x` in record 0, and lane 5 parked with an ARRIVE at its head. -/
def parkedBehind (x : Visit) (s : State) : State :=
  { withVisit x (fullTable (s.modLane 5 fun y => { inMode .openIn none y with port := { y.port with queue := [⟨0x01, 0, [1]⟩] } })) with
    parked := [5] }

theorem parkedFirst_5 {s : State} (h : s.parked = [5]) (h5 : (s.lane 5).port.queue.head? = some ⟨0x01, 0, [1]⟩) :
    ParkedFirst 5 [] .one s := ⟨h, _, h5, by decide +kernel⟩

theorem test_hyps_ClearApplied_parked :
    ∃ s : State, HeadReady 3 ⟨0x08, 0, []⟩ .clear s ∧ s.bound 3 = some (0, visit3 .directed (some .admitted)) ∧
      (s.lane 3).lcu.mode = .openIn ∧ s.records.length < 32 ∧ ParkedFirst 5 [] .one s :=
  ⟨parkedBehind (visit3 .directed (some .admitted)) (open3 (fun p => { p with queue := [⟨0x08, 0, []⟩] }) id),
    headReady_of (by decide +kernel), by decide +kernel, by decide +kernel, by decide +kernel,
    parkedFirst_5 (by decide +kernel) (by decide +kernel)⟩

theorem test_hyps_ManagementTxComplete_parked :
    ∃ s : State, Quiet s ∧ s.term.tx = some (.record 0 record1) ∧ s.closing = 0 :: [] ∧
      (s.visit 0).bind (fun x => x.record) = some record1 ∧ ParkedFirst 5 [] .one s ∧ s.term.queue = [] :=
  ⟨{ parkedBehind { visit3 .closing (some .reject) with lane := none, record := some record1 } State.reset with
      records := [(0, record1)], closing := [0], term := { State.reset.term with tx := some (.record 0 record1) } },
    quiet_of (by decide +kernel), by decide +kernel, by decide +kernel, by decide +kernel,
    parkedFirst_5 (by decide +kernel) (by decide +kernel), by decide +kernel⟩

theorem test_hyps_ResetLane_parked :
    ∃ s : State, OpenLink .terminal s ∧ s.bound 3 = some (0, visit3 .identifying none) ∧ s.records.length < 32 ∧ s.bayWait = [] ∧
      ParkedFirst 5 [] .one s ∧ 3 ∉ s.parked :=
  ⟨parkedBehind (visit3 .identifying none) (lane3 (inMode .openIn none)), openLink_of (by decide +kernel), by decide +kernel,
    by decide +kernel, by decide +kernel, parkedFirst_5 (by decide +kernel) (by decide +kernel), by decide +kernel⟩

theorem test_hyps_ResolveAndCancel_parked :
    ∃ s : State, OpenLink .terminal s ∧ s.visitNumbered 65535 = some (0, referred1) ∧ referred1.lane = none ∧ 0 ∉ s.bayWait ∧
      s.standingHold referred1 = false ∧ s.records.length < 32 ∧ ParkedFirst 5 [] .one s :=
  ⟨parkedBehind referred1 State.reset, openLink_of (by decide +kernel), by decide +kernel, by decide +kernel, by decide +kernel,
    by decide +kernel, by decide +kernel, parkedFirst_5 (by decide +kernel) (by decide +kernel)⟩

theorem test_hyps_VisitWindowExpiries_sweeping :
    ∃ s : State, Quiet s ∧ (s.lane 3).lcu.t0 = some (0, .check) ∧ (s.lane 3).lcu.holds = 0 ∧ s.bound 3 = some (0, checking3) ∧
      (s.lane 3).sweep.phase = .running ∧ (checking3.carried.map fun e => e.position).Nodup :=
  ⟨withVisit checking3 (lane3 fun y =>
      { y with
        lcu := { y.lcu with mode := .openIn, t0 := some (0, .check) }
        sweep := { y.sweep with phase := .running, last := some 7, info := some ⟨1, 1#8, 0b111111#8, 0, 0, []⟩ } }),
    quiet_of (by decide +kernel), by decide +kernel, by decide +kernel, by decide +kernel, by decide +kernel, by decide +kernel⟩

theorem test_hyps_ReadsTaken_codeUnexpected :
    ∃ s : State, HeadReady 3 ⟨0x04, 0, 0 :: 80 :: code1⟩ (.code .single 80 code1) s ∧
      ∀ (v : VisitIx) (x : Visit), s.bound 3 = some (v, x) → x.state ≠ .identifying :=
  ⟨withVisit (visit3 .checking none) (open3 (fun p => { p with queue := [⟨0x04, 0, 0 :: 80 :: code1⟩] }) id),
    headReady_of (by decide +kernel), by simp only [all_pair]; decide +kernel⟩

theorem test_hyps_EntersChecking :
    ((withVisit checking3 State.reset).visit 0 = some checking3) ∧
    ((carried .single).closureReq = none ∧ Carried.closureReq { carried .single with closureReq := some .noCheck } = some .noCheck ∧
      Carried.closureReq { carried .single with closureReq := some .intactOnly } = some .intactOnly) ∧
    ((sealed 0).closureOf code1 = some (0, ⟨code1, [[0x41]], false, 0⟩) ∧ ∀ p ∈ State.reset.closures, p.2.code ≠ code1) ∧
    ((visit3 .checking none).carried = [] ∧ checking3.carried ≠ [] ∧ (State.reset.profileOf 3).panels ≠ 0) ∧
    ((visit3 .checking none).state = .checking ∧
      (∀ e ∈ (visit3 .checking none).carried, e.closure ≠ .pending ∧ e.closure ≠ .awaitingRecord) ∧
      (State.reset.lane 3).sweep.phase = .idle) ∧
    (∃ e ∈ checking3.carried, e.closure = .pending ∨ e.closure = .awaitingRecord) := by decide +kernel

/-- Lane 3 with its visit in CHECKING, a sweep running and rule 0 judging position SINGLE. -/
def sweeping3 (queue : List LaneFrame) : State :=
  { withVisit checking3 (lane3 fun y =>
      { y with
        port := { y.port with queue := queue }
        lcu := { y.lcu with mode := .openIn }
        sweep := { y.sweep with
          phase := .running, last := some 7, info := some ⟨1, 1#8, 0b111111#8, 1#16, 0, [⟨.single, 0, 0, false, false⟩]⟩ } }) with
    rules := State.reset.rules.set 0 { Rule.default with enabled := true } }

theorem test_hyps_FindingsJudged :
    (HeadReady 3 ⟨0x06, 0, [0, 7, 0, 0, 0, 0, 15, 3, 255]⟩ (.find 7 .single .left 0 .dent 15 1023)
      (sweeping3 [⟨0x06, 0, [0, 7, 0, 0, 0, 0, 15, 3, 255]⟩])) ∧
    (((sweeping3 []).lane 3).sweep.classify 7 = .applies ∧ hasBit (1#8) (Position.toCode .single) = true ∧
      hasBit (0b111111#8) (Panel.toCode .left) = true ∧ (sweeping3 []).bound 3 = some (0, checking3)) ∧
    ((sweeping3 []).judgedState 3 0 ⟨.single, .left, .dent, 15, 1023⟩ = some ⟨.single, 0, 0, false, false⟩) ∧
    (∃ w : SweepInfo, ((sweeping3 []).lane 3).sweep.info = some w ∧ ⟨.single, 0, 0, false, false⟩ ∈ w.states ∧
      ((sweeping3 []).rules.get 0).enabled = true ∧ ∀ k ∈ w.states, k = ⟨.single, 0, 0, false, false⟩) ∧
    ((State.reset.lane 3).sweep.info = none) ∧
    ((sweeping3 []).visit 0 = some checking3 ∧ ∃ e : Carried, checking3.entryAt .single = some e ∧ e.damage = .pending) :=
  ⟨headReady_of (by decide +kernel), by decide +kernel, by decide +kernel,
    ⟨⟨1, 1#8, 0b111111#8, 1#16, 0, [⟨.single, 0, 0, false, false⟩]⟩, by decide +kernel⟩, by decide +kernel, by decide +kernel,
    carried .single, by decide +kernel⟩

theorem test_hyps_EnteringHold :
    (modeHoldable (State.reset.lane 3).lcu.mode = false) ∧
    (∃ s : State, modeHoldable (s.lane 3).lcu.mode = true ∧ hasBit (s.lane 3).lcu.holds (HoldCause.toCode .fault) = false ∧
      (s.lane 3).lcu.holds ≠ 0 ∧ s.bound 3 = none) ∧
    (∃ s : State, modeHoldable (s.lane 3).lcu.mode = true ∧ hasBit (s.lane 3).lcu.holds (HoldCause.toCode .fault) = false ∧
      (s.lane 3).lcu.holds ≠ 0 ∧ s.bound 3 = some (0, checking3)) ∧
    (∃ s : State, modeHoldable (s.lane 3).lcu.mode = true ∧ (s.lane 3).lcu.holds = 0 ∧ s.bound 3 = none) ∧
    (∃ s : State, modeHoldable (s.lane 3).lcu.mode = true ∧ (s.lane 3).lcu.holds = 0 ∧ s.bound 3 = some (0, checking3)) ∧
    (∃ s : State, modeHoldable (s.lane 3).lcu.mode = true ∧ (s.lane 3).lcu.holds = 0 ∧
      s.bound 3 = some (0, visit3 .directed (some .admitted)) ∧ (s.lane 3).dirAcked = true ∧ (s.lane 3).lcu.pendingDir = false) ∧
    (∃ s : State, modeHoldable (s.lane 3).lcu.mode = true ∧ (s.lane 3).lcu.holds = 0 ∧
      s.bound 3 = some (0, visit3 .directed (some .admitted)) ∧ (s.lane 3).dirAcked = false) ∧
    (∃ s : State, Quiet s ∧ (s.lane 3).lcu.t1 = some 0 ∧ (s.lane 3).lcu.holds = 0 ∧ s.bound 3 = none) ∧
    (∃ s : State, Quiet s ∧ (s.lane 3).port.signWait = some ⟨5, ⟨.noArrow, [], none⟩⟩ ∧ (s.lane 3).port.signTimer = some 0 ∧
      (s.lane 3).lcu.holds ≠ 0) :=
  ⟨by decide +kernel,
    ⟨open3 id fun u => { u with holds := 1 }, by decide +kernel⟩,
    ⟨withVisit checking3 (open3 id fun u => { u with holds := 1 }), by decide +kernel⟩,
    ⟨open3 id id, by decide +kernel⟩,
    ⟨withVisit checking3 (open3 id id), by decide +kernel⟩,
    ⟨withVisit (visit3 .directed (some .admitted)) ((open3 id id).modLane 3 fun y => { y with dirAcked := true }), by decide +kernel⟩,
    ⟨withVisit (visit3 .directed (some .admitted)) (open3 id id), by decide +kernel⟩,
    ⟨open3 id fun u => { u with t1 := some 0 }, quiet_of (by decide +kernel), by decide +kernel⟩,
    ⟨open3 (fun p => { p with signWait := some ⟨5, ⟨.noArrow, [], none⟩⟩, signTimer := some 0 }) fun u => { u with holds := 1 },
      quiet_of (by decide +kernel), by decide +kernel⟩⟩

theorem test_hyps_HoldStepAndResume_more :
    (∃ s : State, OpenLink .terminal s ∧ s.term.rx = [] ∧ modeHoldable (s.lane 3).lcu.mode = true ∧
      hasBit (s.lane 3).lcu.holds 0 = true ∧ 15 < (16#8).toNat) ∧
    (∃ s : State, OpenLink .terminal s ∧ (s.lane 3).lcu.holds ≠ 0 ∧ (s.lane 3).lcu.pendingDir = false ∧
      s.bound 3 = some (0, visit3 .directed (some .admitted)) ∧ (s.lane 3).lcu.barrier = .down ∧ (s.lane 3).port.queue = []) :=
  ⟨⟨open3 id fun u => { u with holds := 1 }, openLink_of (by decide +kernel), by decide +kernel⟩,
    ⟨withVisit (visit3 .directed (some .admitted)) (open3 id fun u => { u with holds := 1, barrier := .down }),
      openLink_of (by decide +kernel), by decide +kernel⟩⟩

/-- Lane 3 held by STALL, its bound visit DIRECTED with the barrier DOWN, a CLEAR at the head of its queue and its transmitter free. -/
def stalled3 (pending : Bool) : State :=
  withVisit (visit3 .directed (some .admitted))
    (open3 (fun p => { p with queue := [⟨0x08, 0, []⟩] }) fun u => { u with holds := 8, pendingDir := pending, barrier := .down })

theorem test_hyps_HoldStepAndResume_raiseSent (pending : Bool) :
    OpenLink .terminal (stalled3 pending) ∧ ((stalled3 pending).lane 3).lcu.holds ≠ 0 ∧
    (stalled3 pending).bound 3 = some (0, visit3 .directed (some .admitted)) ∧
    ((stalled3 pending).lane 3).lcu.pendingDir = pending ∧ ((stalled3 pending).lane 3).lcu.barrier = .down ∧
    ((stalled3 pending).lane 3).lcu.mode = .openIn ∧ 3 ∉ (stalled3 pending).parked ∧ ((stalled3 pending).lane 3).port.line = .up ∧
    ((stalled3 pending).lane 3).port.tx = none ∧ ((stalled3 pending).lane 3).port.queue = [⟨0x08, 0, []⟩] ∧
    LaneFrame.content ⟨0x08, 0, []⟩ = .visit .clear := by
  cases pending <;> exact ⟨openLink_of (by decide +kernel), by decide +kernel⟩

theorem test_hyps_HoldStepAndResume_heads :
    (∃ s : State, (s.lane 3).lcu.mode = .openIn ∧ (s.lane 3).lcu.holds = 0 ∧ 3 ∉ s.parked ∧
      (s.lane 3).port.queue.head? = some ⟨0x08, 0, []⟩) ∧
    ((State.reset.lane 3).lcu.mode = .closed ∧ (State.reset.lane 3).port.queue = [] ∧ (State.reset.lane 3).lcu.pendingDir = false ∧
      State.reset.bound 3 = none) :=
  ⟨⟨open3 (fun p => { p with queue := [⟨0x08, 0, []⟩] }) id, by decide +kernel⟩, by decide +kernel⟩

/-- RESUME_LANE sends the RAISE of the lifting; the LOWER of the CLEAR then stands in the BARRIER place (R18, R40; 2.8). -/
theorem test_resume_sends_raise_before_lower (pending : Bool) :
    (match exec (.resumeLane 1 3) (stalled3 pending) with
    | .next u => decide ((u.lane 3).port.tx = some (barrierFrame .raise 0) ∧ (u.lane 3).port.hpBarrier = some .lower)
    | _ => false) = true := by
  cases pending <;> decide +kernel

/-- A redirect with a bay free sends its LOWER; the RAISE of the REFER direction then stands in the BARRIER place (R18, R153). -/
theorem test_redirect_sends_lower_before_raise :
    (match exec (.addHold .authority 1 code1 .customs 0)
        (withVisit { visit3 .directed (some .admitted) with carried := [carried .single] } (open3 id fun u => { u with barrier := .up })) with
    | .next u => decide ((u.lane 3).port.tx = some (barrierFrame .lower 0) ∧ (u.lane 3).port.hpBarrier = some .raise ∧
        (u.lane 3).lcu.barrier = .up ∧ (u.visit 0).bind (·.bay) = some 0)
    | _ => false) = true := by
  decide +kernel

theorem lastBay_of {v w : VisitIx} {b : Nat} {rest : List VisitIx} {s : State}
    (h : (decide (b < s.bayCount ∧ s.freeBay = none ∧ s.bayWait = w :: rest ∧ v ∉ w :: rest)
      && (s.visit v).bind (·.bay) == some b && (allVisits.all fun z => z == v || (s.visit z).bind (·.bay) != some b)
      && ((s.visit w).bind (·.lane)).isSome && ((s.visit w).bind (·.bay)).isNone) = true) : LastBay v w b rest s := by
  simp only [Bool.and_eq_true, decide_eq_true_eq, beq_iff_eq, List.all_eq_true, allVisits, List.mem_finRange, forall_const,
    Bool.or_eq_true, bne_iff_ne] at h
  obtain ⟨⟨⟨⟨⟨h1, h2, h3, h4⟩, hv⟩, hz⟩, hw⟩, hb⟩ := h
  refine ⟨h1, h2, h3, h4, Option.bind_eq_some_iff.1 hv, fun z x hne hx hb => ?_, ?_⟩
  · exact ((hz z).resolve_left hne) (by rw [hx]; exact hb)
  · cases e : s.visit w with
    | none => simp [e] at hw
    | some y => exact ⟨y, rfl, fun hn => by simp [e, hn] at hw, by simpa [e] using hb⟩

theorem test_hyps_HoldStepAndResume_nothing :
    (∃ s : State, OpenLink .terminal s ∧ (s.lane 3).lcu.holds ≠ 0 ∧ (s.lane 3).lcu.pendingDir = false ∧ s.bound 3 = none ∧
      (∀ v : VisitIx, s.visit v ≠ none) ∧ (s.lane 3).port.queue.head? = some ⟨0x01, 0, [1]⟩ ∧
      LaneFrame.content ⟨0x01, 0, [1]⟩ = .visit (.arrive .one)) ∧
    (∃ s : State, OpenLink .terminal s ∧ (s.lane 3).lcu.holds ≠ 0 ∧ (s.lane 3).lcu.pendingDir = false ∧ s.bound 3 = none ∧
      (s.lane 3).lcu.mode = .draining ∧ (s.lane 3).port.queue ≠ []) :=
  ⟨⟨fullTable (open3 (fun p => { p with queue := [⟨0x01, 0, [1]⟩] }) fun u => { u with holds := 1 }),
      openLink_of (by decide +kernel), by decide +kernel⟩,
    ⟨(open3 (fun p => { p with queue := [⟨0x08, 0, []⟩] }) fun u => { u with holds := 1 }).modLcu 3 fun u =>
        { u with mode := .draining, target := some .closed },
      openLink_of (by decide +kernel), by decide +kernel⟩⟩

theorem test_hyps_ResetLane_closing :
    ∃ (s : State) (x : Visit), OpenLink .terminal s ∧ s.bound 3 = some (0, x) ∧ 32 ≤ s.records.length ∧ hasBit x.reasons 19 = true :=
  ⟨{ withVisit { checking3 with reasons := 0x80000 } (open3 id id) with
      records := List.replicate 32 (0, record1), term := { State.reset.term with tx := some (.record 0 record1) } },
    { checking3 with reasons := 0x80000 }, openLink_of (by decide +kernel), by decide +kernel⟩

/-- A CLOSURE that breaks its tag adds CLOSURE_BROKEN and completes the check (R54, R104). -/
theorem test_hyps_ClosureTaken_evaluated :
    (∃ (s : State) (e : Carried), HeadReady 3 ⟨0x05, 0, [0, 0, 1, 80, 1, 0x41]⟩ (.closure .single .tag (some .broken) 80 [0x41]) s ∧
      s.bound 3 = some (0, { checking3 with carried := [e] }) ∧ Visit.entryAt { checking3 with carried := [e] } .single = some e ∧
      e.reads.length < 3 ∧ e.closure = .pending ∧
      judgeRead (e.closureReq.getD .noCheck) (s.sealsOf e) e.reads ⟨[0x41], .tag, some .broken, 80⟩ = .broken) ∧
    (∃ (s : State) (e : Carried), HeadReady 3 ⟨0x05, 0, [0, 0, 1, 80, 1, 0x41]⟩ (.closure .single .tag (some .broken) 80 [0x41]) s ∧
      s.bound 3 = some (0, { checking3 with carried := [e] }) ∧ Visit.entryAt { checking3 with carried := [e] } .single = some e ∧
      e.reads.length < 3 ∧ e.closure ≠ .pending) :=
  ⟨⟨withVisit { checking3 with carried := [{ carried .single with closure := .pending, closureReq := some .intactOnly }] }
        (open3 (fun p => { p with queue := [⟨0x05, 0, [0, 0, 1, 80, 1, 0x41]⟩] }) id),
      { carried .single with closure := .pending, closureReq := some .intactOnly }, headReady_of (by decide +kernel), by decide +kernel⟩,
    ⟨withVisit { checking3 with carried := [{ carried .single with closure := .mismatch }] }
        (open3 (fun p => { p with queue := [⟨0x05, 0, [0, 0, 1, 80, 1, 0x41]⟩] }) id),
      { carried .single with closure := .mismatch }, headReady_of (by decide +kernel), by decide +kernel⟩⟩

theorem test_hyps_ManagementTxComplete_queues :
    (∃ s u : State, Quiet s ∧ s.term.state = .up ∧ s.term.reply = some ⟨1, 0x71, .ok, []⟩ ∧
      s.term.queue = [queuedOf 2 .readStatus, queuedOf 3 .restart] ∧
      exec .terminalTxComplete { s with term := { s.term with queue := [] } } = .next u) ∧
    (∃ s u : State, Quiet s ∧ s.auth.state = .up ∧ s.auth.reply = some ⟨1, 0x62, .ok, []⟩ ∧
      s.auth.queue = [queuedOf 2 (.readSlot 7), queuedOf 3 (.removeHold code1)] ∧
      exec .authTxComplete { s with auth := { s.auth with queue := [] } } = .next u) ∧
    (OpenLink .authority State.reset ∧ requestOf (.removeHold .authority 1 code1) = some (.authority, 1, .removeHold code1)) :=
  ⟨⟨{ State.reset with
        term := { State.reset.term with
          tx := some (.reply ⟨0, 0x71, .ok, []⟩), reply := some ⟨1, 0x71, .ok, []⟩
          queue := [queuedOf 2 .readStatus, queuedOf 3 .restart] } },
      _, quiet_of (by decide +kernel), by decide +kernel, by decide +kernel, by decide +kernel, rfl⟩,
    ⟨{ State.reset with
        auth := { State.reset.auth with
          tx := some (.reply ⟨0, 0x62, .ok, []⟩), reply := some ⟨1, 0x62, .ok, []⟩
          queue := [queuedOf 2 (.readSlot 7), queuedOf 3 (.removeHold code1)] } },
      _, quiet_of (by decide +kernel), by decide +kernel, by decide +kernel, by decide +kernel, rfl⟩,
    openLink_of (by decide +kernel), by decide +kernel⟩

theorem test_hyps_TableReads_closures :
    Table.lookup State.reset.closures 1023 = none ∧ Table.lookup State.reset.holdList 511 = none ∧
    Table.lookup ({ State.reset with holdList := [(511, ⟨code1, .customs, 1, none⟩)] } : State).holdList 511 =
      some ⟨code1, .customs, 1, none⟩ ∧ Table.lookup (sealed 1).closures 0 = some ⟨code1, [[0x41]], false, 1⟩ := by
  decide +kernel

/-- READ_SWEEP after a reset: IDLE, next sweep number 0, and every field of a last sweep absent (R128, R129, R182). -/
theorem test_read_sweep_after_reset :
    (match exec (.readSweep 1 3) State.reset with
    | .next u => decide (u.term.tx = some (.reply ⟨1, 0x4A, .ok, [0, 0, 0, 0, 0, 0, 0, 0, 0, 0, 0]⟩))
    | _ => false) = true := by
  decide +kernel

theorem test_hyps_AdmissionLookup_window :
    (∃ s : State, s.clock = some ⟨159, 0, 0⟩ ∧ s.window 63 = some ⟨100, 60, 2, 2⟩ ∧ s.currentWindow = some 63) ∧
    (∃ s : State, s.clock = none ∧ s.window 63 = some ⟨100, 60, 2, 2⟩) ∧
    ((booked .entered).liveBooking code1 .drop = some (0, booking1 .entered) ∧ (booked .cancelled).liveBooking code1 .drop = none) :=
  ⟨⟨{ clocked 159 0 0 with windows := State.reset.windows.set 63 (some ⟨100, 60, 2, 2⟩) }, by decide +kernel⟩,
    ⟨{ State.reset with windows := State.reset.windows.set 63 (some ⟨100, 60, 2, 2⟩) }, by decide +kernel⟩, by decide +kernel⟩

theorem test_hyps_VerdictComposition_frozen :
    ∃ s : State, s.bound 3 = some (0, checking3) ∧ composedVerdict s.policy checking3.reasons = .admitted ∧ s.frozen = true ∧
      0 < (s.profileOf 3).audit ∧ (s.lane 3).lcu.audit = 0 ∧ modeHoldable (s.lane 3).lcu.mode = true ∧ (s.lane 3).lcu.holds = 0 ∧
      s.enabled .laneHeld = true :=
  ⟨{ withVisit checking3 (open3 id id) with
      frozen := true, profiles := State.reset.profiles.set 0 { Profile.default with audit := 255 } }, by decide +kernel⟩

theorem test_hyps_HoldsOnVisits_unheld :
    ∃ s : State, s.visit 0 = some checking3 ∧ s.carriesHeld checking3 = false :=
  ⟨withVisit checking3 State.reset, by decide +kernel⟩

/-- One bay, held by `x` in record 0, and record 1 waiting for it on lane 5. -/
def oneBay (x : Visit) (s : State) : State :=
  { (withVisit x (s.modLane 5 (inMode .openIn none))).setVisit 1
      (some { visit3 .waitingBay (some .refer) with number := 2, lane := some 5, grantLane := 5 }) with
    bayCount := 1, bayWait := [1] }

/-- `oneBay` with record 2 waiting behind record 1, on lane 6. -/
def oneBayTwo (x : Visit) (s : State) : State :=
  { (oneBay x (s.modLane 6 (inMode .openIn none))).setVisit 2
      (some { visit3 .waitingBay (some .refer) with number := 4, lane := some 6, grantLane := 6 }) with bayWait := [1, 2] }

theorem test_hyps_BaysAndPolicy_released :
    (∃ s : State, OpenLink .terminal s ∧ LastBay 0 1 0 [] s ∧ s.visitNumbered 65535 = some (0, { referred1 with bay := some 0 }) ∧
      referred1.state = .referred ∧ s.standingHold { referred1 with bay := some 0 } = false) ∧
    (∃ s : State, OpenLink .terminal s ∧ LastBay 0 1 0 [] s ∧
      s.bound 3 = some (0, { visit3 .directed (some .refer) with bay := some 0 }) ∧ (s.lane 3).lcu.holds ≠ 0) ∧
    (∃ s : State, OpenLink .terminal s ∧ LastBay 0 1 0 [2] s ∧ s.visitNumbered 65535 = some (0, { referred1 with bay := some 0 }) ∧
      (s.visit 2).bind (·.lane) = some 6) ∧
    (∃ s : State, OpenLink .terminal s ∧ LastBay 0 1 0 [2] s ∧
      s.bound 3 = some (0, { visit3 .directed (some .refer) with bay := some 0 }) ∧ (s.lane 3).lcu.holds ≠ 0) ∧
    (∀ x : Visit, State.reset.visit 0 = some x → x.bay = none) :=
  ⟨⟨oneBay { referred1 with bay := some 0 } State.reset, openLink_of (by decide +kernel), lastBay_of (by decide +kernel),
      by decide +kernel⟩,
    ⟨oneBay { visit3 .directed (some .refer) with bay := some 0 } (open3 id fun u => { u with holds := 1 }),
      openLink_of (by decide +kernel), lastBay_of (by decide +kernel), by decide +kernel⟩,
    ⟨oneBayTwo { referred1 with bay := some 0 } State.reset, openLink_of (by decide +kernel), lastBay_of (by decide +kernel),
      by decide +kernel⟩,
    ⟨oneBayTwo { visit3 .directed (some .refer) with bay := some 0 } (open3 id fun u => { u with holds := 1 }),
      openLink_of (by decide +kernel), lastBay_of (by decide +kernel), by decide +kernel⟩,
    by simp only [all_some]; decide +kernel⟩

/-- RESET_LANE's cancel gives its bay to the waiting visit, whose direction is shown on its own lane (R58, R59, R68). -/
theorem test_reset_lane_grants_its_bay :
    (match exec (.resetLane 1 3) (oneBay { visit3 .directed (some .refer) with bay := some 0 } (open3 id id)) with
    | .next u => decide (u.bayWait = [] ∧ (u.visit 1).bind (·.bay) = some 0 ∧ (u.visit 1).map (·.state) = some .directed ∧
        (u.lane 5).port.tx = some (barrierFrame .raise 0))
    | _ => false) = true := by
  decide +kernel

theorem test_hyps_VerdictComposition_places :
    (∃ s : State, s.bound 3 = some (0, { checking3 with reasons := 4 }) ∧ composedVerdict s.policy 4 = .refer ∧ s.freeBay = none ∧
      s.enabled .bayWait = true) ∧
    (∃ s : State, s.bound 3 = some (0, { checking3 with reasons := 4 }) ∧ composedVerdict s.policy 4 = .refer ∧ s.freeBay = some 0) ∧
    (∃ s : State, s.bound 3 = some (0, checking3) ∧ composedVerdict s.policy checking3.reasons = .admitted ∧
      (s.lane 3).lcu.holds ≠ 0) :=
  ⟨⟨{ (withVisit { checking3 with reasons := 4 } (open3 id id)).setVisit 1 (some { referred1 with bay := some 0 }) with
        bayCount := 1, enables := 0x1FF }, by decide +kernel⟩,
    ⟨withVisit { checking3 with reasons := 4 } (open3 id id), by decide +kernel⟩,
    ⟨withVisit checking3 (open3 id fun u => { u with holds := 1 }), by decide +kernel⟩⟩

theorem test_hyps_HoldRequests_reached :
    ∃ (s : State) (v : VisitIx) (x : Visit), s.visit v = some x ∧ (x.carried.any fun e => e.code = code1) = true ∧
      (holdVisits code1 .customs s).1 = [v] ∧ (holdVisits code1 .customs s).2 ≠ s :=
  ⟨withVisit checking3 (open3 id id), 0, checking3, by decide +kernel⟩

/-- A visit in CHECKING that holds the booking at index 0 and pins the Closure Table entry at index 0. -/
def holding3 : Visit :=
  { checking3 with arrival := some 175, carried := [{ carried .single with booking := some 0, closureIx := some 0 }] }

/-- The part with that visit, its booking HELD for it and its entry pinned once. -/
def holdingPart : State :=
  { withVisit holding3 (open3 id id) with
    bookings := [(0, { booking1 .held with heldFrom := some .opened, holder := some 1 })]
    windows := State.reset.windows.set 0 (some ⟨100, 60, 2, 1⟩)
    closures := [(0, ⟨code1, [[0x41]], false, 1⟩)]
    recency := [0] }

theorem test_hyps_AdmissionLookup_more :
    (∃ i ∈ holding3.listed, ∃ (b : Booking) (d : Text),
      Table.lookup [(0, { booking1 .held with card := some [0x31] })] i = some b ∧ b.card = some d ∧ d ≠ [0x30]) ∧
    (holdingPart.visit 0 = some holding3 ∧ holding3.dir = .inGate ∧ holding3.arrival = some 175 ∧ holding3.card = none ∧
      Visit.card { holding3 with card := some [0x30] } = some [0x30]) ∧
    (∀ i ∈ holding3.listed, ∀ b : Booking, Table.lookup holdingPart.bookings i = some b → b.card = none) ∧
    (checking3.listed = [] ∧ holding3.plate = none) :=
  ⟨⟨0, by decide +kernel, { booking1 .held with card := some [0x31] }, [0x31], by decide +kernel⟩, by decide +kernel,
    by simp only [all_some]; decide +kernel, by decide +kernel⟩

theorem test_hyps_ClosureRequests_waiting :
    (∃ s : State, OpenLink .terminal s ∧ codeValid code1 = true ∧ sealsOk [[0x41]] = true ∧ (∀ p ∈ s.closures, p.2.code ≠ code1) ∧
      s.closures.length < 1024) ∧
    (∃ x : Visit, x.lane = some 3 ∧ ∃ e ∈ x.carried, e.code = code1 ∧ e.closure = .awaitingRecord) ∧
    (∀ e ∈ checking3.carried, ¬ (e.code = code1 ∧ e.closure = .awaitingRecord)) :=
  ⟨⟨State.reset, openLink_of (by decide +kernel), by decide +kernel⟩,
    ⟨{ checking3 with carried := [{ carried .single with closure := .awaitingRecord }] }, by decide +kernel⟩, by decide +kernel⟩

theorem test_hyps_RulesDirectionsMessages_show :
    (∃ s : State, s.directions.get 63 = some ⟨.refer, none, 127, .left⟩ ∧ s.lookupDirection .refer none = some ⟨.refer, none, 127, .left⟩ ∧
      s.routeKey (visit3 .directed (some .refer)) (dirClassOf .refer .inGate) = none) ∧
    (∀ i : Fin 64, State.reset.directions.get i = none) ∧
    ((holding3.carried.filterMap fun e => e.booking) ++ holding3.picks = 0 :: []) ∧
    ((∀ e ∈ checking3.carried, e.booking = none) ∧ checking3.picks = []) :=
  ⟨⟨{ State.reset with directions := State.reset.directions.set 63 (some ⟨.refer, none, 127, .left⟩) }, by decide +kernel⟩,
    by decide +kernel, by decide +kernel, by decide +kernel⟩

/-! ### A state with a visit, a bay and counts that meets the invariants -/

/-- The only open visit of that part is the one in record 0. -/
theorem holdingPart_visit {v : VisitIx} {x : Visit} (h : holdingPart.visit v = some x) : v = 0 ∧ x = holding3 := by
  have hv : holdingPart.visit v = if v = 0 then some holding3 else State.reset.visit v := State.visit_setVisit _ _ _ _
  rw [hv] at h
  split at h
  · exact ⟨‹_›, (Option.some.inj h).symm⟩
  · rw [(by decide +kernel : ∀ v : VisitIx, State.reset.visit v = none)] at h
    cases h

/-- That part has one loaded window. -/
theorem holdingPart_window {i : Nat} {w : Window} (h : holdingPart.window i = some w) : i = 0 ∧ w = ⟨100, 60, 2, 1⟩ := by
  by_cases hi : i < 64
  · have key : ∀ j : Fin 64, j ≠ 0 → holdingPart.window j.val = none := by decide +kernel
    by_cases h0 : i = 0
    · subst h0
      exact ⟨rfl, (Option.some.inj (h.symm.trans (by decide +kernel : holdingPart.window 0 = some ⟨100, 60, 2, 1⟩)))⟩
    · rw [key ⟨i, hi⟩ (fun e => h0 (congrArg Fin.val e))] at h
      cases h
  · have : holdingPart.windows[i]? = none := by simp [Nat.le_of_not_lt hi]
    simp [State.window, this] at h

theorem test_hyps_StepsKeepVisitsLegal :
    VisitsLegal (holdingPart.withCommand .tick) ∧ ∃ t : State, step (holdingPart.withCommand .tick) = .next t := by
  refine ⟨⟨?_, ⟨?_, ?_⟩, ?_, ?_⟩, _, rfl⟩
  · intro v x h
    obtain ⟨-, rfl⟩ := holdingPart_visit h
    simp only [Visit.legal, Visit.needsBay]
    decide +kernel
  · intro v w x y hv hw _
    rw [(holdingPart_visit hv).1, (holdingPart_visit hw).1]
  · intro v x b hv hb
    rw [(holdingPart_visit hv).2] at hb
    cases hb
  · exact ⟨by decide +kernel, by decide +kernel, fun l hl => by cases hl⟩
  · have none_in : ∀ (st : VisitState) (v : VisitIx), st ≠ .checking →
        ¬ ∃ x : Visit, (holdingPart.withCommand .tick).visit v = some x ∧ x.state = st := by
      rintro st v hst ⟨x, hx, hs⟩
      rw [(holdingPart_visit hx).2] at hs
      exact hst hs.symm
    exact ⟨by decide +kernel, fun v => ⟨(fun h => nomatch h), fun h => absurd h (none_in _ v (by decide))⟩, by decide +kernel,
      by decide +kernel, fun v => ⟨(fun h => nomatch h), fun h => absurd h (none_in _ v (by decide))⟩, by decide +kernel⟩

theorem holdsLegal_of {s : State} {x : Visit} (hl : ∀ p ∈ s.holdList, codeValid p.2.code = true) (hr : s.records = [])
    (h0 : s.visit 0 = some x) (hn : ∀ v : VisitIx, v ≠ 0 → s.visit v = none) (hx : x.holdLegal s) : HoldsLegal s := by
  refine ⟨hl, by simp [hr], fun v y hy => ?_⟩
  by_cases hv : v = 0
  · subst hv
    rw [h0] at hy
    cases hy
    exact hx
  · rw [hn v hv] at hy
    cases hy

theorem test_hyps_StepsKeepHoldsLegal_step :
    ∃ s : State, VisitsLegal s ∧ HoldsLegal s ∧ s.pending = [.addHold .authority 1 code1 .customs 0] ∧ ∃ t : State, step s = .next t :=
  ⟨holdingPart.withCommand (.addHold .authority 1 code1 .customs 0), test_hyps_StepsKeepVisitsLegal.1,
    holdsLegal_of (x := holding3) (by decide +kernel) (by decide +kernel) (by decide +kernel) (by decide +kernel)
      ⟨by decide +kernel, by decide +kernel, fun vd _ (h : none = some vd) => (by cases h), by decide +kernel, by decide +kernel,
        fun r (h : none = some r) => (by cases h)⟩,
    by decide +kernel, _, rfl⟩

theorem test_hyps_StepsKeepHoldsLegal_standing :
    ∃ s : State, HoldsLegal s ∧ s.visit 0 = some { referred1 with reasons := 0x80000 } ∧
      s.standingHold { referred1 with reasons := 0x80000 } = true :=
  ⟨{ withVisit { referred1 with reasons := 0x80000 } State.reset with holdList := [(0, ⟨code1, .customs, 1, none⟩)] },
    holdsLegal_of (x := { referred1 with reasons := 0x80000 }) (by decide +kernel) (by decide +kernel) (by decide +kernel)
      (by decide +kernel)
      ⟨by decide +kernel, by decide +kernel, fun _ _ h => (Option.some.inj h).symm, by decide +kernel, by decide +kernel,
        fun _ h => nomatch h⟩,
    by decide +kernel⟩

theorem test_hyps_StepsKeepCounts :
    BookingsCounted (holdingPart.withCommand .tick) ∧ PinsCounted (holdingPart.withCommand .tick) ∧
      TablesOrdered (holdingPart.withCommand .tick) := by
  refine ⟨⟨?_, by decide +kernel, by simp only [all_some]; decide +kernel, ?_⟩, ⟨by decide +kernel, ?_⟩, ?_⟩
  · intro i w h
    obtain ⟨rfl, rfl⟩ := holdingPart_window h
    decide +kernel
  · intro v x i h hi
    obtain ⟨-, rfl⟩ := holdingPart_visit h
    rw [show holding3.listed = [0] from rfl, List.mem_singleton] at hi
    subst hi
    exact ⟨_, rfl, rfl, rfl⟩
  · intro v x h
    obtain ⟨-, rfl⟩ := holdingPart_visit h
    simp only [all_some]
    decide +kernel
  · simp only [TablesOrdered, Table.Ordered]
    decide +kernel

/-! ### Single steps with their outcome -/

/-- OPEN_LANE on a CLOSED lane: WARMING, WAKE sent, the OK reply in transmission (R23). -/
theorem test_openLane :
    let t := after (.openLane 1 3 .inGate) State.reset
    (t.lane 3).lcu.mode = .warming ∧ (t.lane 3).lcu.t3 = some 300 ∧ (t.lane 3).port.tx = some ⟨0x21, 0, []⟩ ∧
      t.term.tx = some (.reply ⟨1, 0x10, .ok, []⟩) ∧ t.eventFlag .laneMode 3 = true := by decide +kernel

/-- The last READY of the required units opens the lane (R24). -/
theorem test_ready_opens :
    let s := lane3 fun x => { x with lcu := { x.lcu with mode := .warming, target := some .openIn, ready := 0b01001111#8 } }
    ((after (.ready 3 0 7) s).lane 3).lcu.mode = .openIn ∧ ((after (.ready 3 0 6) s).lane 3).lcu.mode = .warming := by
  decide +kernel

/-- An ARRIVE is granted record 0 and number 1 (R46). -/
theorem test_arrive :
    let t := after (.applyArrive 3) (open3 (fun p => { p with queue := [⟨0x01, 0, [1]⟩] }) id)
    (t.visit 0).map (fun x => (x.number, x.state, x.load)) = some (1, .identifying, .one) ∧ (t.lane 3).lcu.t0 = some (80, .read) ∧
      (t.lane 3).port.queue = [] := by decide +kernel

/-- A CLEAR of an admitted visit closes it: record 0 with tag 0 is being sent and LOWER too (R61, R67). -/
theorem test_clear :
    let s := withVisit (visit3 .directed (some .admitted)) (open3 (fun p => { p with queue := [⟨0x08, 0, []⟩] }) id)
    let t := after (.applyClear 3) s
    t.visit 0 = none ∧ t.records.length = 1 ∧ t.term.tx = some (.record 0 { record1 with outcome := .admitted }) ∧
      (t.lane 3).port.tx = some ⟨0x23, 0, [1]⟩ := by decide +kernel

/-- The sign timeout of an open lane holds it at LANE severity (R20, R176). -/
theorem test_signTimeout :
    let t := after (.signTimeout 3) (open3 (fun p => { p with signWait := some ⟨5, ⟨.noArrow, [], none⟩⟩, signTimer := some 0 }) id)
    (t.lane 3).lcu.holds = 0b10000#8 ∧ (t.faults.get 3).pointer = some .signTimeout ∧
      (t.lane 3).port.signWait = some ⟨0, ⟨.noArrow, pleaseWait, none⟩⟩ := by
  decide +kernel

/-- A sign timeout taken after an RX_OVERFLOW has held the lane is recorded all the same, and its sign wait ends (R20, R176). -/
theorem test_signTimeout_held :
    let s := open3 (fun p => { p with signWait := some ⟨5, ⟨.noArrow, [], none⟩⟩, signTimer := some 0 }) id
    let t := after (.signTimeout 3) (recordLane 3 .rxOverflow [] s)
    ((recordLane 3 .rxOverflow [] s).lane 3).lcu.holds = 0b10000#8 ∧ (t.lane 3).lcu.holds = 0b10000#8 ∧
      (t.faults.get 3).status = 0b10001000#16 ∧ (t.faults.get 3).pointer = some .rxOverflow ∧
      (t.lane 3).port.signWait ≠ some ⟨5, ⟨.noArrow, [], none⟩⟩ := by
  decide +kernel

/-- A code of no request: UNKNOWN, and UNKNOWN_CLASS of the terminal link's port (R165). -/
theorem test_unknownRequest :
    let t := after (.unknownRequest .terminal 9 0xFF []) State.reset
    t.term.tx = some (.reply ⟨9, 0xFF, .unknown, []⟩) ∧ (t.faults.get 16).pointer = some .unknownClass := by decide +kernel

/-- ADD_HOLD is the authority's alone (R165). -/
theorem test_addHold :
    (after (.addHold .terminal 1 code1 .customs 5) State.reset).term.tx = some (.reply ⟨1, 0x60, .denied, []⟩) ∧
      (after (.addHold .authority 1 code1 .customs 5) State.reset).holdList = [(0, ⟨code1, .customs, 5, none⟩)] := by decide +kernel

/-- A second of the Gate Clock after ten ticks, with the minute's carry (R80). -/
theorem test_clock :
    (after .gateClockSecond (clocked 7 59 10)).clock = some ⟨8, 0, 0⟩ ∧ (after .gateClockSecond (clocked 7 59 9)).clock = some ⟨7,
      59, 9⟩ := by
  decide +kernel

/-- A booking is loaded into the lowest free place and counted in its window (R72, R76). -/
theorem test_loadBooking :
    let t := after (.loadBooking 1 { load1 with ref := 8, kind := .pick, card := some [0x31] }) (booked .opened)
    t.term.tx = some (.reply ⟨1, 0x30, .ok, [0, 1]⟩) ∧ t.window 0 = some ⟨100, 60, 2, 2⟩ := by decide +kernel

/-- HOLD_LANE, received as its frame: the lane is held (R39, log 3). -/
theorem test_holdLane :
    ((after (.mgmtFrameReceived .terminal (MgmtFrame.wire ⟨1, 4, [0x13, 3]⟩)) (open3 id id)).lane 3).lcu.holds = 1 := by decide +kernel

/-- CHECKING entered with a miss and a sweep: AWAITING_RECORD, CLOSURE_MISS, a SWEEP frame and T0 with window kind CHECK (R53, R103, R113). -/
theorem test_enterChecking :
    let x := { visit3 .identifying none with carried := [{ carried .single with closureReq := some .listed, codeValid := false }] }
    let t := enterChecking 3 0 (withVisit x (open3 id id))
    (t.visit 0).map (fun y => (y.state, y.carried.map fun e => e.closure)) = some (.checking, [.awaitingRecord]) ∧
      (t.lane 3).port.hpSweep = some (.sweep 0 1#8 0b111111#8) ∧ (t.lane 3).lcu.t0 = some (300, .check) ∧
      t.eventFlag .closureMiss 3 = true := by decide +kernel

/-- A finding that fires rule 0 of action MINOR (R122, R124). -/
theorem test_judgeFinding :
    let s := sweeping3 []
    let f : Finding := ⟨.single, .left, .dent, 15, 16⟩
    let r : Rule := { Rule.default with enabled := true, a := { Rule.default.a with value := 14 } }
    ((judgeFinding 3 0 f { s with rules := s.rules.set 0 r }).visit 0).map (fun y => (y.reasons, y.carried.map fun e => (e.damage, e.fired))) =
      some (0x10000#32, [(.minor, 1#16)]) ∧ judgeFinding 3 0 f s = s := by decide +kernel

/-- A set of fault kinds: 2 bytes for a lane port, 1 for a link port, whose mask of 4 kinds is read back (R175, R182). -/
theorem test_kindBytes :
    kindBytes 15 0x1FF#16 = [1, 0xFF] ∧ kindBytes 16 0xF#16 = [0xF] ∧
      parseRequest 0x79 [17, 0xF] = some (.setFaultMask 17 0xF#16) ∧ parseRequest 0x79 [17, 0, 0xF] = none ∧
      parseRequest 0x79 [3, 1, 0xFF] = some (.setFaultMask 3 0x1FF#16) := by decide +kernel

/-- The record of section 3.12, its RECORD frame's body written out from the table of 11.3. -/
theorem test_gateRecord :
    GateRecord.encode
      { number := 1207, lane := 5, dir := .inGate, outcome := .admitted
        plate := some [0x4B, 0x54, 0x34, 0x34, 0x37, 0x31]
        card := some [0x34, 0x34, 0x31, 0x30, 0x32, 0x37, 0x38, 0x38, 0x33, 0x39]
        carried := [⟨.front, code1, some 7700411, .matched, .clean, 0, 1, some 3, none⟩,
          ⟨.rear, [0x43, 0x53, 0x51, 0x55, 0x33, 0x30, 0x35, 0x34, 0x33, 0x39, 0x39], some 7700412, .matched, .clean, 0, 1, some 2, none⟩]
        picks := [], reasons := 0, arrival := some 600145, t2Verdict := some 236, t2Clear := some 270, bay := none
        holdsSeen := 0, undirected := false } =
      [0x04, 0xB7, 0x05, 0x00, 0x00,
        0x01, 0x06, 0x4B, 0x54, 0x34, 0x34, 0x37, 0x31,
        0x01, 0x0A, 0x34, 0x34, 0x31, 0x30, 0x32, 0x37, 0x38, 0x38, 0x33, 0x39,
        0x02,
        0x01, 0x43, 0x53, 0x51, 0x55, 0x33, 0x30, 0x35, 0x34, 0x33, 0x38, 0x33, 0x01, 0x00, 0x75, 0x7F, 0xBB,
        0x02, 0x01, 0x00, 0x00, 0x00, 0x01, 0x01, 0x03, 0x00,
        0x02, 0x43, 0x53, 0x51, 0x55, 0x33, 0x30, 0x35, 0x34, 0x33, 0x39, 0x39, 0x01, 0x00, 0x75, 0x7F, 0xBC,
        0x02, 0x01, 0x00, 0x00, 0x00, 0x01, 0x01, 0x02, 0x00,
        0x00, 0x00, 0x00, 0x00, 0x00,
        0x01, 0x09, 0x28, 0x51, 0x01, 0x00, 0xEC, 0x01, 0x01, 0x0E, 0x00, 0x00, 0x00] := by
  decide +kernel

/-- READ_LANE after reset: line UP, nothing received, held, awaited or reported; CLOSED, profile 0, DOWN, every timer stopped (R21, R42). -/
theorem test_read_lane_after_reset :
    (after (.readLane 1 3) State.reset).term.tx =
      some (.reply ⟨1, 0x17, .ok, [1, 0, 0, 0, 0, 0, 0, 0] ++ [0, 0, 0, 0, 0, 0, 0, 1, 0, 0, 0, 0, 0, 0]⟩) := by
  decide +kernel

/-- The FIND of section 3.12 at tick 120, its payload written out from 11.2. -/
theorem test_findPayload :
    LaneFrame.content ⟨0x06, 0, [0, 58, 1, 4, 4, 0, 3, 0, 40]⟩ = .visit (.find 58 .front .roof 4 .dent 3 40) ∧
      LaneFrame.content ⟨0x06, 0, [0, 58, 1, 4, 16, 0, 3, 0, 40]⟩ = .malformed := by
  decide +kernel

/-- The body of LOAD_WINDOW is read from its bytes (R182, log 8). -/
theorem test_parse :
    parseRequest 0x35 [5, 0, 1, 0, 60, 9] = some (.loadWindow 5 256 60 9) ∧
      parseRequest 0x35 [5, 0, 1, 0, 60] = none := by decide +kernel

/-- A state that meets every invariant, with a step from it. -/
theorem test_hyps_StepsKeepStateLegal :
    ∃ s : State, (LanesLegal s ∧ FaultsLegal s ∧ DwellBounded s ∧ ClockLegal s ∧ TablesOrdered s ∧ LinksLegal s ∧ QueuesBounded s) ∧
      ∃ t : State, step s = .next t := by
  refine ⟨(clocked 1048575 59 10).withCommand .gateClockSecond,
    ⟨by simp only [LanesLegal]; decide +kernel, by simp only [FaultsLegal]; decide +kernel,
      by simp only [DwellBounded, all_some]; decide +kernel, by simp only [ClockLegal, all_some]; decide +kernel,
      by simp only [TablesOrdered, Table.Ordered]; decide +kernel, fun k => by cases k <;> decide +kernel,
      by simp only [QueuesBounded]; decide +kernel⟩, _, rfl⟩

end Sys2Proof.Tests
end

