-- ==== Sys2Proof/Proofs/ContainerCodes.lean ====
section
/-! PROOF. Container codes (R1): the check value position by position, and the valid codes character by character. -/

namespace Sys2Proof.Proofs

/-! ### Characters and slices of a text -/

/-- A predicate holds of all `n` characters from position `a` exactly when it holds at each of these positions. -/
theorem all_slice_iff_getD {t : Text} {a n : Nat} (h : a + n ≤ t.length) (P : Byte → Bool) :
    ((t.drop a).take n).all P = true ↔ ∀ i : Nat, a ≤ i → i < a + n → P (t.getD i 0) = true := by
  have hlen : ((t.drop a).take n).length = n := by simp; omega
  have hget : ∀ (j : Nat) (hj : j < ((t.drop a).take n).length), ((t.drop a).take n)[j] = t.getD (a + j) 0 := by
    intro j hj
    have hj' : a + j < t.length := by omega
    simp [hj']
  rw [List.all_eq_true, List.forall_mem_iff_forall_getElem]
  constructor
  · intro hall i hai hin
    have := hall (i - a) (by omega)
    rwa [hget, Nat.add_sub_cancel' hai] at this
  · intro hall j hj
    rw [hget]
    exact hall (a + j) (by omega) (by omega)

/-- A slice of one character. -/
theorem all_slice_one_iff_getD {t : Text} {a : Nat} (h : a + 1 ≤ t.length) (P : Byte → Bool) :
    ((t.drop a).take 1).all P = true ↔ P (t.getD a 0) = true := by
  rw [all_slice_iff_getD h]
  constructor
  · intro hall
    exact hall a (by omega) (by omega)
  · intro ha i hai hia
    obtain rfl : i = a := by omega
    exact ha

/-- The character of a digit is its value above the character 0. -/
theorem isDigit_sub_eq_iff (b : Byte) (v : Nat) :
    (isDigit b && b.toNat - 0x30 == v) = true ↔ isDigit b = true ∧ b.toNat = 0x30 + v := by
  simp only [isDigit, Bool.and_eq_true, decide_eq_true_eq, beq_iff_eq]
  omega

/-! ### The values of characters and the check value (R1) -/

/-- A digit has its own value (R1). -/
theorem charValue_digit {d : Nat} (hd : d < 10) : charValue (BitVec.ofNat 8 (0x30 + d)) = d := by
  have hn : (BitVec.ofNat 8 (0x30 + d)).toNat = 0x30 + d := by
    rw [BitVec.toNat_ofNat]; omega
  have hdig : isDigit (BitVec.ofNat 8 (0x30 + d)) = true := by
    simp only [isDigit, hn, Bool.and_eq_true, decide_eq_true_eq]; omega
  rw [charValue, if_pos hdig, hn]
  omega

/-- The recursive sum from position `p` is the sum over positions, the `i`th character weighted by 2 raised to `p + i`. -/
theorem checkSum_eq_sum (p : Nat) (t : Text) :
    checkSum p t = ((List.range t.length).map fun i => charValue (t.getD i 0) * 2 ^ (p + i)).sum := by
  induction t generalizing p with
  | nil => rfl
  | cons b bs ih =>
    have hshift : ∀ i : Nat, p + 1 + i = p + (i + 1) := by omega
    simp [checkSum, ih, hshift, List.range_succ_eq_map, Function.comp_def]

/-- The sum of a text's first `n` characters reads these characters in the text itself. -/
theorem checkSum_take (n : Nat) (t : Text) :
    checkSum 0 (t.take n) = ((List.range (t.take n).length).map fun i => charValue (t.getD i 0) * 2 ^ i).sum := by
  rw [checkSum_eq_sum]
  congr 1
  refine List.map_congr_left fun i hi => ?_
  have hin : i < n := by
    have := List.mem_range.mp hi
    rw [List.length_take] at this
    omega
  simp [hin]

/-- The check value of R1 written out: the weighted sum of the first ten characters modulo 11, with 10 taken as 0. -/
theorem checkValue_eq_sum (t : Text) :
    checkValue t =
      (if ((List.range (t.take 10).length).map fun i => charValue (t.getD i 0) * 2 ^ i).sum % 11 = 10 then 0
       else ((List.range (t.take 10).length).map fun i => charValue (t.getD i 0) * 2 ^ i).sum % 11) := by
  rw [← checkSum_take, checkValue]

/-! ### The valid codes (R1) -/

/-- A code of 11 characters is valid by its four slices; each slice is read position by position. -/
theorem codeValid_iff (t : Text) :
    codeValid t = true ↔ t.length = 11 ∧
      (∀ i : Nat, i < 3 → isLetter (t.getD i 0) = true) ∧ (t.getD 3 0 = 0x55 ∨ t.getD 3 0 = 0x4A ∨ t.getD 3 0 = 0x5A) ∧
      (∀ i : Nat, 4 ≤ i → i < 10 → isDigit (t.getD i 0) = true) ∧ isDigit (t.getD 10 0) = true ∧
      (t.getD 10 0).toNat = 0x30 + checkValue t := by
  by_cases hlen : t.length = 11
  case neg => simp [codeValid, hlen]
  case pos =>
    have howner : (t.take 3).all isLetter = true ↔ ∀ i : Nat, i < 3 → isLetter (t.getD i 0) = true := by
      simpa using all_slice_iff_getD (t := t) (a := 0) (n := 3) (by omega) isLetter
    have hcategory : ((t.drop 3).take 1).all (fun b => b == 0x55#8 || b == 0x4A#8 || b == 0x5A#8) = true ↔
        t.getD 3 0 = 0x55 ∨ t.getD 3 0 = 0x4A ∨ t.getD 3 0 = 0x5A := by
      rw [all_slice_one_iff_getD (by omega)]
      simp [or_assoc]
    have hserial := all_slice_iff_getD (t := t) (a := 4) (n := 6) (by omega) isDigit
    have hlast : (t.drop 10).take 1 = t.drop 10 := List.take_of_length_le (by simp [hlen])
    have hcheck := all_slice_one_iff_getD (t := t) (a := 10) (by omega) (fun b => isDigit b && b.toNat - 0x30 == checkValue t)
    rw [hlast, isDigit_sub_eq_iff] at hcheck
    simp only [codeValid, Bool.and_eq_true, howner, hcategory, hserial, hcheck, hlen, beq_iff_eq, true_and, and_assoc]

/-! ### The obligation -/

/-- Settles O52: the check value by induction on the text, validity slice by slice, the letters' values and the code CSQU3054383
by evaluating the model. -/
theorem containerCodes : Obligations.ContainerCodes := by
  refine ⟨fun d hd => charValue_digit hd, ?letters, checkValue_eq_sum, codeValid_iff, ?check, ?valid⟩
  case letters => decide
  case check => decide
  case valid => decide

end Sys2Proof.Proofs
end

