-- ==== Sys2Proof/Proofs/ProfileAssignments.lean ====
section
/-! PROOF. Profile assignments (R32): what ASSIGN_PROFILE answers, and which commands leave every lane's assignment as it is. -/

namespace Sys2Proof.Proofs

open Sys2Proof.Machine

/-! ### ASSIGN_PROFILE, case by case (R32) -/

/-- On a CLOSED lane the assignment is made. -/
theorem reqAssignProfile_closed {s : State} {l : LaneId} (i : Fin 8) (h : (s.lane l).lcu.mode = .closed) :
    reqAssignProfile l.val i.val s = ((.ok, []), s.modLcu l fun u => { u with profile := i }) := by
  simp [reqAssignProfile, h, applied]

/-- In any other mode the request is refused with STATE. -/
theorem reqAssignProfile_of_not_closed {s : State} {l : LaneId} (i : Fin 8) (h : (s.lane l).lcu.mode ≠ .closed) :
    reqAssignProfile l.val i.val s = ((.state, []), s) := by
  simp [reqAssignProfile, h, refusedWith]

/-- A lane or a profile that does not exist is refused with BAD_VALUE. -/
theorem reqAssignProfile_out_of_range {n i : Nat} (s : State) (h : 15 < n ∨ 7 < i) :
    reqAssignProfile n i s = ((.badValue, []), s) := by
  unfold reqAssignProfile
  by_cases hn : 15 < n
  · exact withLane_none hn _ s
  · have hi : ¬ i < 8 := by omega
    obtain ⟨l, rfl⟩ : ∃ l : LaneId, n = l.val := ⟨⟨n, by omega⟩, rfl⟩
    simp [hi, refusedWith]

/-- A change of a lane's control unit changes no port. -/
theorem port_modLcu (s : State) (l m : LaneId) (f : Lcu → Lcu) : ((s.modLcu l f).lane m).port = (s.lane m).port := by
  rw [State.modLcu, State.lane_modLane]
  split
  · next h => rw [h]
  · rfl

/-- The profile assigned is the one the lane's profile values are then read from. -/
theorem profileOf_assigned (s : State) (l : LaneId) (i : Fin 8) :
    (s.modLcu l fun u => { u with profile := i }).profileOf l = s.profiles.get i := by
  simp [State.profileOf, State.modLcu, State.lane_modLane]

/-! ### The assignments over the operations of a lane -/

/-- The profile assignment of a lane (R32). -/
def assignment (s : State) (m : LaneId) : Fin 8 := (s.lane m).lcu.profile

/-- States with the same lanes have the same assignments. -/
theorem assignment_of_lanes {s t : State} (h : t.lanes = s.lanes) (m : LaneId) : assignment t m = assignment s m := by
  simp only [assignment, State.lane, h]

/-- A change of a lane that keeps its profile field keeps every assignment. -/
theorem assignment_modLane {s : State} {l : LaneId} {f : Lane → Lane}
    (h : (f (s.lane l)).lcu.profile = (s.lane l).lcu.profile) (m : LaneId) : assignment (s.modLane l f) m = assignment s m := by
  unfold assignment
  rw [State.lane_modLane]
  split
  · next hm => rw [h, hm]
  · rfl

@[simp] theorem assignment_modVisit (s : State) (v : VisitIx) (f : Visit → Visit) (m : LaneId) :
    assignment (s.modVisit v f) m = assignment s m := rfl

@[simp] theorem assignment_raiseEvent (k : EventKind) (p : PortId) (s : State) (m : LaneId) :
    assignment (raiseEvent k p s) m = assignment s m := by
  unfold raiseEvent
  split <;> rfl

@[simp] theorem assignment_produceShow (l : LaneId) (w : Show) (s : State) (m : LaneId) :
    assignment (produceShow l w s) m = assignment s m := assignment_modLane rfl m

@[simp] theorem assignment_raiseBarrier (l : LaneId) (s : State) (m : LaneId) :
    assignment (raiseBarrier l s) m = assignment s m := assignment_modLane rfl m

@[simp] theorem assignment_lowerBarrier (l : LaneId) (s : State) (m : LaneId) :
    assignment (lowerBarrier l s) m = assignment s m := assignment_modLane rfl m

@[simp] theorem assignment_setPendingFlag (l : LaneId) (b : Bool) (s : State) (m : LaneId) :
    assignment (setPendingFlag l b s) m = assignment s m := assignment_modLane rfl m

@[simp] theorem assignment_showDirection (l : LaneId) (s : State) (m : LaneId) :
    assignment (showDirection l s) m = assignment s m := by
  unfold showDirection
  split
  · split
    · simp
    · rfl
  · rfl

@[simp] theorem assignment_makePending (l : LaneId) (s : State) (m : LaneId) :
    assignment (makePending l s) m = assignment s m := by
  simp [makePending, waitText]

/-! ### The assignments over the closing of a visit (R47, R59, R66, R68) -/

/-- The grant starts T2 and T0 of its lane. -/
@[simp] theorem assignment_grant (l : LaneId) (v : VisitIx) (load : LoadClass) (s : State) (m : LaneId) :
    assignment (grant l v load s) m = assignment s m := by
  have hpop : assignment (popHead l s) m = assignment s m := assignment_modLane rfl m
  have hopened : ∀ (x : Option Visit) (n : Nat),
      assignment { (popHead l s).setVisit v x with visitCounter := n } m = assignment (popHead l s) m :=
    fun _ _ => assignment_of_lanes rfl m
  exact (assignment_modLane rfl m).trans ((hopened _ _).trans hpop)

@[simp] theorem assignment_grantParked (v : VisitIx) (s : State) (m : LaneId) :
    assignment (grantParked v s) m = assignment s m := by
  unfold grantParked
  split
  · split
    · exact assignment_grant _ _ _ _ m
    · rfl
  · rfl

@[simp] theorem assignment_enterDirected (l : LaneId) (v : VisitIx) (s : State) (m : LaneId) :
    assignment (enterDirected l v s) m = assignment s m := by
  unfold enterDirected setVisitState
  dsimp only
  split <;> simp

/-- Bays granted to waiting visits show or make pending the directions of their lanes. -/
@[simp] theorem assignment_grantBays (n : Nat) (s : State) (m : LaneId) : assignment (grantBays n s) m = assignment s m := by
  induction n generalizing s with
  | zero => rfl
  | succ n ih =>
    have htake : ∀ (v : VisitIx) (b : Nat) (rest : List VisitIx),
        assignment (takeBay v b { s with bayWait := rest }) m = assignment s m :=
      fun _ _ _ => assignment_of_lanes rfl m
    unfold grantBays
    split
    · dsimp only
      split
      · rw [ih, assignment_enterDirected, htake]
      · rw [ih, htake]
    · rfl

@[simp] theorem assignment_releaseBay (v : VisitIx) (s : State) (m : LaneId) :
    assignment (releaseBay v s) m = assignment s m := by
  unfold releaseBay
  split
  · simp [grantFreeBays]
  · rfl

@[simp] theorem assignment_releaseLane (l : LaneId) (v : VisitIx) (s : State) (m : LaneId) :
    assignment (releaseLane l v s) m = assignment s m := assignment_modLane (s := s.modVisit v _) rfl m

/-- A visit that closes gives its record to a parked lane, or waits for the Record Queue. -/
@[simp] theorem assignment_closeVisit (v : VisitIx) (o : CloseOutcome) (s : State) (m : LaneId) :
    assignment (closeVisit v o s) m = assignment s m := by
  unfold closeVisit
  split
  · dsimp only
    split
    · exact assignment_grantParked _ _ m
    · rfl
  · rfl

@[simp] theorem assignment_resolvedNotice (x : Visit) (s : State) (m : LaneId) :
    assignment (resolvedNotice x s) m = assignment s m := by
  unfold resolvedNotice
  split <;> rfl

/-! ### The assignments over RESET_LANE (R43) -/

/-- The cancelled visit's bookings, pins, bay wait and bay are given up before its lane is released. -/
@[simp] theorem assignment_cancelBound (l : LaneId) (v : VisitIx) (x : Visit) (s : State) (m : LaneId) :
    assignment (cancelBound l v x s) m = assignment s m := by
  have hunpinned : ∀ t : State, assignment (leaveBayWait v (releasePins x (restoreBookings x t))) m = assignment t m :=
    fun _ => assignment_of_lanes rfl m
  have hstopT2 : ∀ t : State, assignment (t.modLcu l fun u => { u with t2 := none }) m = assignment t m :=
    fun _ => assignment_modLane rfl m
  simp [cancelBound, hunpinned, hstopT2]

@[simp] theorem assignment_stopSweep (l : LaneId) (s : State) (m : LaneId) :
    assignment (stopSweep l s) m = assignment s m := by
  unfold stopSweep
  split
  · exact (assignment_modLane rfl m).trans (assignment_modLane rfl m)
  · rfl

/-- The lane's control unit is cleared but for its profile assignment. -/
@[simp] theorem assignment_clearLane (l : LaneId) (s : State) (m : LaneId) :
    assignment (clearLane l s) m = assignment s m := by
  have hport : assignment (s.modPort l Port.clear) m = assignment s m := assignment_modLane rfl m
  have hunparked : ∀ t : State, assignment (leaveParked l t) m = assignment t m := fun _ => assignment_of_lanes rfl m
  have hsweep : ∀ t : State, assignment (t.modSweep l Sweep.clear) m = assignment t m := fun _ => assignment_modLane rfl m
  have hlcu : ∀ t : State, assignment (t.modLane l fun x => { x with lcu := x.lcu.clear, dirRef := none }) m = assignment t m :=
    fun _ => assignment_modLane rfl m
  simp [clearLane, hport, hunparked, hsweep, hlcu]

/-- RESET_LANE keeps every assignment, whether or not the lane binds a visit or is CLOSED. -/
theorem assignment_reqResetLane (l : LaneId) (s : State) (m : LaneId) :
    assignment (reqResetLane l.val s).2 m = assignment s m := by
  simp only [reqResetLane, withLane_val, applied]
  cases s.bound l with
  | none => split <;> simp
  | some p => split <;> simp

/-! ### The assignments over the resets and RESTART (R44) -/

/-- A reset of every lane assigns profile 0 to each. -/
theorem assignment_resetWith (c : ResetCause) (s : State) (m : LaneId) :
    assignment (State.resetWith c s.pending (s.lanes.map fun x => Lane.reset x.port.line) s.auth.state s.term.state) m = 0 := by
  simp [assignment, State.lane_eq, State.resetWith, Lane.reset, Lcu.reset]

/-- RESTART keeps every assignment. -/
theorem assignment_restartAll (s : State) (m : LaneId) : assignment (restartAll s) m = assignment s m := by
  simp [assignment, State.lane_eq, restartAll, Lane.restart, Lcu.clear]

/-! ### The assignments over serving (R18, R164) -/

/-- The transmitters change ports and links alone. -/
@[simp] theorem assignment_settle (s : State) (m : LaneId) : assignment (settle s) m = assignment s m := by
  simp [assignment, State.lane_eq, settle, transmitLanes, Lane.transmit]

/-- A terminal request whose effect keeps every assignment is carried out with every assignment kept. -/
theorem exec_keeps_assignments {c : Instr} {s : State} {tag : Byte} {r : Request} (h : OpenLink .terminal s)
    (hc : requestOf c = some (.terminal, tag, r)) (hk : Link.terminal.knows r.code = true)
    (hd : deniedCode .terminal r.code = false) (ho : ∀ m : LaneId, assignment (owner .terminal r s).2 m = assignment s m) :
    ∃ t : State, exec c s = .next t ∧ ∀ m : LaneId, assignment t m = assignment s m := by
  refine ⟨_, (exec_request hc).trans (congrArg _ (arriveRequest_owner h tag r hk hd)), fun m => ?_⟩
  rw [assignment_settle]
  exact ho m

/-! ### The obligation -/

/-- Settles O31: the answers by the case of the request, and what the resets do to the assignments by following the profile field
through each operation they are made of. -/
theorem assignProfile : Obligations.AssignProfile := by
  refine ⟨fun s tag l i h hm => ⟨?closed, profileOf_assigned s l i⟩, fun s tag l i h hm => ?notClosed,
    fun s tag n i h hout => ?outOfRange, fun s => ?resets, fun s tag h => ?restart, fun s tag l h => ?resetLane⟩
  case closed =>
    exact answers_terminal h rfl rfl rfl rfl (reqAssignProfile_closed i hm) (fun m => port_modLcu s l m _) rfl rfl rfl
  case notClosed => exact answers_same h rfl rfl rfl rfl (reqAssignProfile_of_not_closed i hm)
  case outOfRange => exact answers_same h rfl rfl rfl rfl (reqAssignProfile_out_of_range s hout)
  case resets =>
    exact ⟨_, _, rfl, rfl, fun l => ⟨assignment_resetWith .powerOn s l, assignment_resetWith .resetLine s l⟩⟩
  case restart => exact exec_keeps_assignments (r := .restart) h rfl rfl rfl (assignment_restartAll s)
  case resetLane => exact exec_keeps_assignments (r := .resetLane l.val) h rfl rfl rfl (assignment_reqResetLane l s)

end Sys2Proof.Proofs
end

