-- ==== Sys2Proof/Proofs/MatcherRules.lean ====
section
/-! PROOF. Matchers of damage rules (R121): what each condition compares, when a finding matches, and which match state judges it. -/

namespace Sys2Proof.Proofs

open Sys2Proof.Machine

/-! ### Measures and conditions (R121) -/

@[simp] theorem measured_severity (f : Finding) : measured .severity f = f.severity := rfl

@[simp] theorem measured_extent (f : Finding) : measured .extent f = f.extent := rfl

/-- Neither measure looks at the finding's position. -/
@[simp] theorem measured_position (μ : Measure) (f : Finding) (p : Position) : measured μ { f with position := p } = measured μ f := by
  cases μ with
  | severity => rfl
  | extent => rfl

@[simp] theorem conditionHolds_ne (a b : Nat) : conditionHolds .ne a b = true ↔ a ≠ b := decide_eq_true_iff

@[simp] theorem conditionHolds_eq (a b : Nat) : conditionHolds .eq a b = true ↔ a = b := decide_eq_true_iff

@[simp] theorem conditionHolds_lt (a b : Nat) : conditionHolds .lt a b = true ↔ a < b := decide_eq_true_iff

@[simp] theorem conditionHolds_gt (a b : Nat) : conditionHolds .gt a b = true ↔ a > b := decide_eq_true_iff

/-! ### Matching (R121) -/

/-- The three conditions of R121. -/
theorem matcherMatches_iff (m : Matcher) (f : Finding) :
    matcherMatches m f = true ↔
      hasBit m.panels f.panel.toCode = true ∧ hasBit m.defects f.defect.toCode = true ∧
        conditionHolds m.condition (measured m.measure f) m.value = true := by
  simp only [matcherMatches, Bool.and_eq_true, and_assoc]

/-- A matcher whose condition fails of the measured value matches nothing, whatever its sets. -/
theorem matcherMatches_eq_false {m : Matcher} {f : Finding}
    (h : ¬ conditionHolds m.condition (measured m.measure f) m.value = true) : matcherMatches m f = false := by
  rw [Bool.eq_false_iff]
  intro hmatch
  obtain ⟨_, _, hcondition⟩ := (matcherMatches_iff m f).mp hmatch
  exact h hcondition

/-- LT 0 matches no finding on either measure. -/
theorem matcherMatches_lt_zero {m : Matcher} (f : Finding) (hc : m.condition = .lt) (hv : m.value = 0) :
    matcherMatches m f = false :=
  matcherMatches_eq_false <| by
    rw [hc, hv, conditionHolds_lt]
    exact Nat.not_lt_zero _

/-- GT on EXTENT matches no finding whose extent the matcher's value reaches. -/
theorem matcherMatches_gt_extent {m : Matcher} {f : Finding} (hc : m.condition = .gt) (hm : m.measure = .extent)
    (hle : f.extent ≤ m.value) : matcherMatches m f = false :=
  matcherMatches_eq_false <| by
    rw [hc, hm, conditionHolds_gt, measured_extent]
    exact Nat.not_lt.mpr hle

/-- The finding's position does not enter the match. -/
@[simp] theorem matcherMatches_position (m : Matcher) (f : Finding) (p : Position) :
    matcherMatches m { f with position := p } = matcherMatches m f := by
  simp only [matcherMatches, measured_position]

/-- The check of a matcher looks at its sets and its value's range, not at its condition (R120). -/
theorem matcherOk_condition (m : Matcher) (c : Condition) : matcherOk { m with condition := c } = matcherOk m := rfl

/-! ### The match state that judges a finding (R121, R122) -/

theorem judged_iff (r : Rule) (f : Finding) (m : MatchState) :
    m.judged r f = true ↔ r.enabled = true ∧ m.position = f.position ∧ m.fired = false := by
  simp only [MatchState.judged, Bool.and_eq_true, beq_iff_eq, Bool.not_eq_true', and_assoc]

/-- The match state found for a rule is one of the lane's sweep, of that rule, and one the rule judges. -/
theorem judgedState_some {s : State} {l : LaneId} {i : Fin 16} {f : Finding} {m : MatchState} (h : s.judgedState l i f = some m) :
    ∃ w : SweepInfo, (s.lane l).sweep.info = some w ∧ m ∈ w.states ∧ m.rule = i ∧ m.judged (s.rules.get i) f = true := by
  obtain ⟨w, hinfo, hfind⟩ := Option.bind_eq_some_iff.mp h
  have hfound := List.find?_some hfind
  rw [Bool.and_eq_true, decide_eq_true_iff] at hfound
  obtain ⟨hrule, hjudged⟩ := hfound
  exact ⟨w, hinfo, List.mem_of_find?_eq_some hfind, hrule, hjudged⟩

/-! ### The obligation -/

/-- Settles O53: the match by the condition and the measure of the matcher, the conditions that cannot hold by their bounds, and the
match state by what the search for it answers. -/
theorem matcherRule : Obligations.MatcherRule := by
  refine ⟨fun m f => ?matchIff, fun m f => matcherMatches_lt_zero f, fun m f hc hm hv hf => ?gtExtent,
    fun m c => by rw [matcherOk_condition m c], fun m f p => matcherMatches_position m f p, fun s l i f m h => ?judged⟩
  case matchIff =>
    rw [matcherMatches_iff]
    refine and_congr_right fun _ => and_congr_right fun _ => ?_
    obtain ⟨panels, defects, μ, c, v⟩ := m
    cases c with
    | ne => exact conditionHolds_ne _ _
    | eq => exact conditionHolds_eq _ _
    | lt => exact conditionHolds_lt _ _
    | gt => exact conditionHolds_gt _ _
  case gtExtent => exact matcherMatches_gt_extent hc hm (by omega)
  case judged =>
    obtain ⟨_, _, _, hrule, hjudged⟩ := judgedState_some h
    obtain ⟨_, hposition, _⟩ := (judged_iff _ f m).mp hjudged
    exact ⟨hposition, hrule⟩

end Sys2Proof.Proofs
end
